-- ==== Sys2Proof/Word.lean ====
section
/-! DEFINITION. The widths the spec fixes: every value that the block shifts, masks or compares as bits is a bit vector
of the width its rule names (R16: bit 0 is the least significant bit, every integer is unsigned). -/

namespace Sys2Proof

/-- A byte of the display protocol, and every 8-bit operand of a request (R76). -/
abbrev Byte := BitVec 8

/-- A nibble: "a 4-bit half of a byte" (R19). -/
abbrev Nibble := BitVec 4

/-- A request word REQ (R75). -/
abbrev Request := BitVec 32

/-- A response word RSP (R80). -/
abbrev Response := BitVec 16

/-- An AdcSample, "an unsigned fixed-width (12-bit) integer in [0, 4095]" (R13: RESULT_W = 12). -/
abbrev Sample := BitVec 12

/-- The persistence counter's width, CNT_W = 16 (R14, R32). -/
abbrev Count := BitVec 16

/-- A channel number 0 .. N_CH - 1, with N_CH = 8 (R13). -/
abbrev Channel := Fin 8

end Sys2Proof
end

