-- ==== Sys2Proof/Syntax.lean ====
section
/-! DEFINITION. The block's instructions: the seven operation requests of spec/30_encoding.md R77, each with the operand
fields of R76. The types admit exactly the operand values the encoding admits. -/

namespace Sys2Proof

/-- The seven operations, one constructor for each row of spec/opcode_table.json. -/
inductive Instr where
  /-- LCD_INIT, `Display.initialize()` (R105). -/
  | lcdInit
  /-- LCD_CMD b, `Display.writeCommand(byte)` (R103). -/
  | lcdCmd (b : Byte)
  /-- LCD_DATA b, `Display.writeData(byte)` (R104). -/
  | lcdData (b : Byte)
  /-- ADC_CFG chset, div, `configure(channel-set, clockDivider)` (R125). -/
  | adcCfg (chset : Byte) (div : Byte)
  /-- ADC_READ ch, `Sampler.readChannel(id)` (R126). -/
  | adcRead (ch : Byte)
  /-- ALERT_OBS t, `AlertMachine.observe(rawTrigger)` (R151). -/
  | alertObs (t : Bool)
  /-- ALERT_ACK, the manual override (R158). -/
  | alertAck
deriving DecidableEq, Repr

end Sys2Proof
end

