-- ==== Sys2Proof/Decode.lean ====
section
/-! DEFINITION. Decoding a request word (spec/30_encoding.md R75 to R79), total on every 32-bit word, and the encoder
written from the same opcode map. -/

namespace Sys2Proof

/-- OPC, bits 31:28 of REQ (R75). -/
def Request.opc (w : Request) : BitVec 4 := w.extractLsb' 28 4

/-- RSV, bits 27:16 of REQ, "must be 0" (R75). -/
def Request.rsv (w : Request) : BitVec 12 := w.extractLsb' 16 12

/-- ARG1, bits 15:8 of REQ (R75). -/
def Request.arg1 (w : Request) : Byte := w.extractLsb' 8 8

/-- ARG0, bits 7:0 of REQ (R75). -/
def Request.arg0 (w : Request) : Byte := w.extractLsb' 0 8

/-- One row of the opcode map (R77): the word selects the row when `word & mask = pattern`, and then stands for the
operation that `build` assembles from the word's operand fields (R76). -/
structure OpcodeRow where
  mnemonic : String
  pattern  : Request
  mask     : Request
  build    : Request → Instr

/-- The opcode map of R77, row by row. -/
def opcodeMap : List OpcodeRow :=
  [ ⟨"LCD_INIT",  0x00000000#32, 0xFFFFFFFF#32, fun _ => .lcdInit⟩,
    ⟨"LCD_CMD",   0x10000000#32, 0xFFFFFF00#32, fun w => .lcdCmd (Request.arg0 w)⟩,
    ⟨"LCD_DATA",  0x20000000#32, 0xFFFFFF00#32, fun w => .lcdData (Request.arg0 w)⟩,
    ⟨"ADC_CFG",   0x30000000#32, 0xFFFF0000#32, fun w => .adcCfg (Request.arg0 w) (Request.arg1 w)⟩,
    ⟨"ADC_READ",  0x40000000#32, 0xFFFFFF00#32, fun w => .adcRead (Request.arg0 w)⟩,
    ⟨"ALERT_OBS", 0x50000000#32, 0xFFFFFFFE#32, fun w => .alertObs (w.getLsbD 0)⟩,
    ⟨"ALERT_ACK", 0x60000000#32, 0xFFFFFFFF#32, fun _ => .alertAck⟩ ]

/-- "A word W selects a row when `W & mask = match`" (R77). -/
def OpcodeRow.selects (r : OpcodeRow) (w : Request) : Bool := w &&& r.mask == r.pattern

/-- Why a request word is illegal (R79): a reserved opcode, RSV not 0, or a field that must be 0 and is not. -/
inductive Illegal where
  | reservedOpcode
  | reservedBits
  | unusedArg1
  | unusedArg0
deriving DecidableEq, Repr

/-- The outcomes of decoding (R78): one of the seven operations, or illegal. -/
inductive Decoded where
  | op (i : Instr)
  | illegal (why : Illegal)
deriving DecidableEq, Repr

/-- The name of the reason, in the order R79 lists them. -/
def illegalReason (w : Request) : Illegal :=
  if 7 ≤ (Request.opc w).toNat then .reservedOpcode
  else if Request.rsv w ≠ 0 then .reservedBits
  else if Request.opc w ≠ 3 ∧ Request.arg1 w ≠ 0 then .unusedArg1
  else .unusedArg0

/-- R78: "compare the word against the seven match/mask pairs of rule R77; if one matches, the outcome is that operation
with the operands of rule R76; otherwise the outcome is `illegal`". -/
def decode (w : Request) : Decoded :=
  match opcodeMap.find? (fun r => r.selects w) with
  | some r => .op (r.build w)
  | none => .illegal (illegalReason w)

/-- The host's reading of one word of the opcode table: bit 0 of `w` is bit 0 of REQ, bits from `nbits` up are 0. -/
def decodeTableWord (nbits w : Nat) : Option Instr :=
  match decode (BitVec.ofNat 32 (w % 2 ^ nbits)) with
  | .op i => some i
  | .illegal _ => none

/-- Format Q (R75): OPC, RSV = 0, ARG1, ARG0, from the most significant bit down. -/
def formatQ (opc : BitVec 4) (arg1 arg0 : Byte) : Request := opc ++ 0#12 ++ arg1 ++ arg0

/-- The word of an operation (R76, R77). -/
def encode : Instr → Request
  | .lcdInit => formatQ 0x0#4 0#8 0#8
  | .lcdCmd b => formatQ 0x1#4 0#8 b
  | .lcdData b => formatQ 0x2#4 0#8 b
  | .adcCfg chset div => formatQ 0x3#4 div chset
  | .adcRead ch => formatQ 0x4#4 0#8 ch
  | .alertObs t => formatQ 0x5#4 0#8 (0#7 ++ BitVec.ofBool t)
  | .alertAck => formatQ 0x6#4 0#8 0#8

end Sys2Proof
end

