-- ==== Sys2Proof/Config.lean ====
section
/-! DEFINITION. The configuration record of spec/00_scope.md R11 to R14 (plain data, held in State and written by no
step), its default, and the free values: the answers of the agents outside the block and the contents of dead latches,
which the spec does not give. -/

namespace Sys2Proof

/-- One item of a display script (R14): `cmd b` or `data b`, b a byte. -/
inductive ScriptItem where
  | cmd (b : Byte)
  | data (b : Byte)
deriving DecidableEq, Repr

/-- What the converter does with one conversion (R138, R139): before which poll it completes, with which sample, and
whether it clears START itself. `delay = some n` means that n polls read DONE = 0 and the completion step is taken
before the next one; `delay = none` means that it never completes. -/
structure ConverterAnswer where
  delay     : Option Nat
  sample    : Sample
  selfClear : Bool
deriving DecidableEq, Repr, Inhabited

/-- The configuration record (R11 to R14, R33). N_CH = 8, RESULT_W = 12, CLKDIV_W = 8 and CNT_W = 16 are the widths of
Word.lean. SUPPORTED_CH is a set of channels, bit c set meaning that channel c is in it, as in a request's chset (R76).
POLL_LIMIT is a positive number, or none for infinity (R13). -/
structure Config where
  portW        : Nat
  dataShift    : Nat
  rsBit        : Nat
  enBit        : Nat
  buzzBit      : Nat
  pirBit       : Nat
  ackBit       : Nat
  routeShift   : Nat
  tPowerup     : Nat
  tPulse       : Nat
  tXferSettle  : Nat
  tDataSettle  : Nat
  tCmdSettle   : Nat
  tClearSettle : Nat
  supportedCh  : Byte
  pollLimit    : Option Nat
  threshold    : Nat
  trigLevel    : Nat
  msgAlert     : List ScriptItem
  msgClear     : List ScriptItem
  msgAck       : List ScriptItem
deriving DecidableEq, Repr

/-- The default column of R11 to R14. POLL_LIMIT has no default ("OPEN", R13, D14): infinity, the behaviour of the
original source code, is taken for this one record. DESIGN CHOICE (log entry 2). No meaning uses this record: every
meaning reads the configuration that State holds. -/
def Config.default : Config where
  portW        := 32
  dataShift    := 0
  rsBit        := 4
  enBit        := 5
  buzzBit      := 6
  pirBit       := 7
  ackBit       := 8
  routeShift   := 0
  tPowerup     := 40000
  tPulse       := 25
  tXferSettle  := 100
  tDataSettle  := 100
  tCmdSettle   := 3000
  tClearSettle := 30000
  supportedCh  := 0xFF#8
  pollLimit    := none
  threshold    := 50
  trigLevel    := 3650
  msgAlert     := []
  msgClear     := []
  msgAck       := []

/-- VREF = 3.3 volts, "as fixed configuration" (R13). -/
def Config.vref : Rat := 33 / 10

/-- MAX_SAMPLE = 4095, "(12-bit full scale) as fixed configuration" (R13). -/
def Config.maxSample : Rat := 4095

/-- FREE VALUE: the converter's answer to a conversion that State's `answers` no longer lists (R9, R138: a draw the model
does not choose). Log entry 4. -/
opaque Config.freeAnswer : Nat → ConverterAnswer

/-- FREE VALUE: the levels of a port's pins at the instant of a read that State's `pins` no longer lists (R24, R53).
Log entry 5. -/
opaque Config.freePins : Nat → Nat

/-- FREE VALUE: an 8-bit operand latch after the response, "unspecified" (R21). Log entry 6. -/
opaque Config.freeByte : Nat → Byte

/-- FREE VALUE: the CH latch after the response, "unspecified" (R21). Log entry 6. -/
opaque Config.freeCh : Nat → Byte

/-- FREE VALUE: the LCD_MODE latch after the response, "unspecified" (R21). Log entry 6. -/
opaque Config.freeMode : Nat → Bool

/-- FREE VALUE: the NIB latch after the response, "unspecified" (R21). Log entry 6. -/
opaque Config.freeNib : Nat → Nibble

end Sys2Proof
end

