-- ==== Sys2Proof/WellFormed.lean ====
section
/-! DEFINITION. Well-formedness: of an instruction (every term is, R76: each operand field admits every value) and of a
configuration (R15: "Every rule of this spec assumes a well-formed configuration; a model refuses any other"). -/

namespace Sys2Proof

/-- Every operand is "an unsigned field taken as it stands" (R76), and its type has the field's width, so there is
nothing to refuse; a channel outside the supported set is well-formed and answers ConfigurationError (R78). -/
def Instr.wf : Instr → Bool
  | .lcdInit => true
  | .lcdCmd _ => true
  | .lcdData _ => true
  | .adcCfg _ _ => true
  | .adcRead _ => true
  | .alertObs _ => true
  | .alertAck => true

/-- The bit positions of PORT_A that R15 lists: D[0] to D[3], RS, EN, BUZZ, PIR and ACK. (R15 calls them "the ten bit
positions" and lists nine: log entry 9.) -/
def Config.pinPositions (c : Config) : List Nat :=
  [c.dataShift, c.dataShift + 1, c.dataShift + 2, c.dataShift + 3, c.rsBit, c.enBit, c.buzzBit, c.pirBit, c.ackBit]

/-- No number stands twice in the list. -/
def distinct : List Nat → Bool
  | [] => true
  | x :: xs => xs.all (fun y => x != y) && distinct xs

/-- The positions are pairwise distinct (R15). -/
def Config.pinsDistinct (c : Config) : Bool := distinct c.pinPositions

/-- Every position is below PORT_W (R15). -/
def Config.pinsFit (c : Config) : Bool := c.pinPositions.all (fun p => decide (p < c.portW))

/-- ROUTE_SHIFT + N_CH - 1 < PORT_W (R15). -/
def Config.routesFit (c : Config) : Bool := decide (c.routeShift + 7 < c.portW)

/-- T_PULSE >= 1 (R15). -/
def Config.pulseNonzero (c : Config) : Bool := decide (1 ≤ c.tPulse)

/-- T_DATA_SETTLE < T_CMD_SETTLE < T_CLEAR_SETTLE (R15). -/
def Config.settlesOrdered (c : Config) : Bool :=
  decide (c.tDataSettle < c.tCmdSettle) && decide (c.tCmdSettle < c.tClearSettle)

/-- THRESHOLD is in 1..65535 (R15). -/
def Config.thresholdInRange (c : Config) : Bool := decide (1 ≤ c.threshold) && decide (c.threshold ≤ 65535)

/-- TRIG_LEVEL is in 0..4095 (R15). -/
def Config.trigLevelInRange (c : Config) : Bool := decide (c.trigLevel ≤ 4095)

/-- POLL_LIMIT is a positive integer or infinity (R15). -/
def Config.pollLimitPositive (c : Config) : Bool :=
  match c.pollLimit with
  | none => true
  | some n => decide (1 ≤ n)

/-- R15 (its clause on SUPPORTED_CH, a subset of {0..7}, holds by the field's type). -/
def Config.wf (c : Config) : Bool :=
  c.pinsDistinct && c.pinsFit && c.routesFit && c.pulseNonzero && c.settlesOrdered && c.thresholdInRange
    && c.trigLevelInRange && c.pollLimitPositive

end Sys2Proof
end

