-- ==== Sys2Proof/Machine/State.lean ====
section
/-! DEFINITION. The machine's state (spec/10_state.md R20 to R36), what the block is seen to do (R8), the agents outside
it as plain data (R6, R9, R88), and the reasons a step can stop. -/

namespace Sys2Proof.Machine

/-- An output latch or a pattern of a port: "a fixed-width register abstraction" (R23, R25, R50). -/
structure Port where
  width : Nat
  bits  : BitVec width
deriving DecidableEq, Repr

/-- The enumeration {Quiescent, Alert} (R31). -/
inductive AlertState where
  | quiescent
  | alert
deriving DecidableEq, Repr

/-- The sequencer position (R28), at rest between two transitions of this model. One transition runs one whole operation
(R28: "a big-step model (one transition per operation) need not represent it, except [...] the in-progress poll"), so the
positions left are IDLE and the poll of ADC_READ: `polling polls` is R28's record (READ, 5, -, polls), with `polls` reads
of DONE already made, all of which read 0. -/
inductive Seq where
  | idle
  | polling (polls : Nat)
deriving DecidableEq, Repr

/-- The primitive events of a call trace (R8). A mask or a level pattern is the number its PORT_W bits spell (R16). -/
inductive Event where
  | paSet (m : Nat)
  | paClr (m : Nat)
  | pbSet (m : Nat)
  | pbClr (m : Nat)
  | paRead (m : Nat) (v : Nat)
  | wait (d : Nat)
deriving DecidableEq, Repr

/-- One item of the host's program (R88): a request word, or a pseudo-instruction (R86, R87). `alertObsOfSample` is the
second half of ALERT_OBS_ADC, which waits for the response of the ADC_READ in its first half. -/
inductive HostItem where
  | request (w : Request)
  | lcdStr (cs : List Byte)
  | alertObsPin
  | alertObsAdc (c : Byte)
  | alertObsOfSample
  | alertAckPin
deriving DecidableEq, Repr

/-- The state. R20 lists the block's own; INVENTORY.md names each field's rule. -/
structure State where
  /-- The configuration record (R11 to R14, R33): no step writes it. -/
  cfg : Config
  /-- `rs_mode` (R22): true is data, 1. -/
  rsMode : Bool
  /-- `PA`, the PORT_A output latch (R23). -/
  pa : Port
  /-- `PB`, the PORT_B output latch (R25). -/
  pb : Port
  /-- SMP_CTRL.SEL (R26). -/
  sel : Byte
  /-- SMP_CTRL.CLKDIV (R26). -/
  clkdiv : Byte
  /-- SMP_CTRL.PDN (R26). -/
  pdn : Bool
  /-- SMP_CTRL.START (R26). -/
  start : Bool
  /-- SMP_DATA.RESULT (R27). -/
  result : Sample
  /-- SMP_DATA.DONE (R27). -/
  done : Bool
  /-- `conv`, the conversion in flight (R29). -/
  conv : Option Channel
  /-- `alert_state` (R31). -/
  alertState : AlertState
  /-- `persist_cnt` (R32). -/
  persistCnt : Count
  /-- `seq` (R28). -/
  seq : Seq
  /-- The operand latch LCD_BYTE (R21). -/
  lcdByte : Byte
  /-- The operand latch LCD_MODE (R21): true is data, 1. -/
  lcdMode : Bool
  /-- The operand latch NIB (R21). -/
  nib : Nibble
  /-- The operand latch CH (R21). -/
  ch : Byte
  /-- The call trace so far, oldest event first (R8, R66(d)). -/
  trace : List Event
  /-- The responses so far, oldest first (R80). -/
  rsps : List Response
  /-- The host's program: what it has still to issue, next item first (R6(1), R88). -/
  program : List HostItem
  /-- The converter's answers to the conversions to come, next first (R6(3), R9, R138); a conversion past the list's end
  takes a free value. -/
  answers : List ConverterAnswer
  /-- The converter's answer to the conversion in flight: its `delay` counts down at each poll (R133). -/
  answer : ConverterAnswer
  /-- The pin levels at the instants of the port reads to come, next first (R6(4), R24); a read past the list's end takes a
  free value. -/
  pins : List Nat
  /-- How many free values have been taken. -/
  draws : Nat
deriving DecidableEq, Repr

/-- Why the machine stops with a fault. Both faults are safe: the machine stops where the spec gives no successor. -/
inductive Fault where
  /-- Raised by the write START <- 1 when SEL is not one-hot: "a fault state with no successor" (R141, U1). No meaning
  reaches it, since ADC_READ writes a one-hot SEL first (R127). -/
  | triggerNotOneHot
  /-- Raised by the write START <- 1 when PDN = 0: "a model gives that case no meaning" (R137, N30). Reached only from a
  state with a routed channel and an unpowered converter, which no run from reset reaches (R35(h)). -/
  | triggerUnpowered
deriving DecidableEq, Repr

/-- Why an instruction or a machine is refused. -/
inductive Refusal where
  /-- Raised by an arm of exec whose instruction has no meaning yet. No arm raises it. Safe. -/
  | notModelled (mnemonic : String)
  /-- Raised by step on a configuration that is not well-formed: "a model refuses any other" (R15). Safe. -/
  | malformedConfig
deriving DecidableEq, Repr

/-- The state after power-up of a block built with configuration `c` (R36, R200). Of the values below, `alertState` is the
source's and the rest of the block's are the spec's D25; the PORT_A and PORT_B bits that are not the block's, the operand
latches (log entry 3) and the agents outside the block (log entries 4, 5, 7) are the model's choice. -/
def State.resetWith (c : Config) : State where
  cfg        := c
  rsMode     := false
  pa         := ⟨c.portW, 0⟩
  pb         := ⟨c.portW, 0⟩
  sel        := 0
  clkdiv     := 0
  pdn        := false
  start      := false
  result     := 0
  done       := false
  conv       := none
  alertState := .quiescent
  persistCnt := 0
  seq        := .idle
  lcdByte    := 0
  lcdMode    := false
  nib        := 0
  ch         := 0
  trace      := []
  rsps       := []
  program    := []
  answers    := []
  answer     := ⟨none, 0, false⟩
  pins       := []
  draws      := 0

/-- The machine right after reset, with the default configuration of R11 to R14. -/
def State.reset : State := State.resetWith Config.default

end Sys2Proof.Machine
end

