-- ==== Sys2Proof/Machine/Flags.lean ====
section
/-! DEFINITION. The response word (spec/30_encoding.md R80 to R82, spec/42_alert.md R164). The block has no condition
codes and no arithmetic flags (R34); its one-bit status values are fields of State, written by Ops.lean, and the one
result flag is `transitioned`, built here. -/

namespace Sys2Proof.Machine

/-- The outcomes of an operation (R81, R170). -/
inductive Status where
  | ok
  | samplerTimeout
  | configurationError
  | protocolAssertion
deriving DecidableEq, Repr

/-- The STATUS codes (R81): "4..15 are never produced". -/
def Status.code : Status → BitVec 4
  | .ok => 0
  | .samplerTimeout => 1
  | .configurationError => 2
  | .protocolAssertion => 3

/-- RSP (R80): STATUS in bits 15:12, VALUE in bits 11:0. -/
def responseWord (st : Status) (v : BitVec 12) : Response := st.code ++ v

/-- RSP.STATUS (R80). -/
def responseStatus (r : Response) : BitVec 4 := r.extractLsb' 12 4

/-- RSP.VALUE (R80). -/
def responseValue (r : Response) : BitVec 12 := r.extractLsb' 0 12

/-- 0 Quiescent, 1 Alert (R31). -/
def AlertState.bit : AlertState → Bool
  | .quiescent => false
  | .alert => true

/-- The VALUE of an Alert Machine response (R82, R164): bit 0 the state after the operation, bit 1 `transitioned`, bits
11:2 zero. -/
def alertValue (after : AlertState) (transitioned : Bool) : BitVec 12 :=
  0#10 ++ BitVec.ofBool transitioned ++ BitVec.ofBool after.bit

end Sys2Proof.Machine
end

