-- ==== Sys2Proof/Machine/Operands.lean ====
section
/-! DEFINITION. How an operand becomes a mask, a field value or a trigger (spec/20_memory.md R60, R61, R71;
spec/41_sampler.md R127, R144; spec/42_alert.md R159, R160). Masks are the numbers their PORT_W bits spell. -/

namespace Sys2Proof.Machine

/-- `b[7:4]`, the nibble presented first (R60, R110). -/
def highNibble (b : Byte) : Nibble := b.extractLsb' 4 4

/-- `b[3:0]` (R60, R110). -/
def lowNibble (b : Byte) : Nibble := b.extractLsb' 0 4

/-- DATA_MASK = 0xF << DATA_SHIFT (R11). -/
def dataMask (c : Config) : Nat := 0xF <<< c.dataShift

/-- RS_MASK = 1 << RS_BIT (R11). -/
def rsMask (c : Config) : Nat := 1 <<< c.rsBit

/-- EN_MASK = 1 << EN_BIT (R11). -/
def enMask (c : Config) : Nat := 1 <<< c.enBit

/-- BUZZ_MASK = 1 << BUZZ_BIT (R11). -/
def buzzMask (c : Config) : Nat := 1 <<< c.buzzBit

/-- PIR_MASK = 1 << PIR_BIT (R11). -/
def pirMask (c : Config) : Nat := 1 <<< c.pirBit

/-- ACK_MASK = 1 << ACK_BIT (R11). -/
def ackMask (c : Config) : Nat := 1 <<< c.ackBit

/-- The port value of a nibble, `zext_PORT_W(nib) << DATA_SHIFT` (R61, R71(1)). -/
def nibbleMask (c : Config) (n : Nibble) : Nat := n.toNat <<< c.dataShift

/-- The routing bits of a channel set, `zext_PORT_W(chset) << ROUTE_SHIFT` (R71(3), R125). -/
def routeMask (c : Config) (chset : Byte) : Nat := chset.toNat <<< c.routeShift

/-- The PORT_A bits that the block drives (R23, R55): D[3:0], RS, EN and BUZZ. -/
def blockMaskA (c : Config) : Nat := dataMask c ||| rsMask c ||| enMask c ||| buzzMask c

/-- The PORT_B bits that the block drives (R25, R55): the N_CH routing bits. -/
def blockMaskB (c : Config) : Nat := routeMask c 0xFF

/-- The one-hot value `1 << ch`, 8 bits (R71(4), R127). -/
def oneHot (ch : Nat) : Byte := 1#8 <<< ch

/-- The channel whose one-hot value SEL holds, if SEL is one-hot (R137, R141). -/
def selectedChannel (sel : Byte) : Option Channel := (List.finRange 8).find? (fun c => sel == oneHot c.val)

/-- The check of ADC_CFG's step 1 (R125): the set is empty or names an unsupported channel. -/
def badChannelSet (c : Config) (chset : Byte) : Bool := chset == 0 || chset &&& ~~~c.supportedCh != 0

/-- The trigger taken from a pin read (R159), and the acknowledge test (R158): the level is high. -/
def levelHigh (v : Nat) : Bool := v != 0

/-- The trigger taken from a sample: unsigned and strict (R160, R144). -/
def belowTrigger (c : Config) (s : BitVec 12) : Bool := decide (s.toNat < c.trigLevel)

end Sys2Proof.Machine
end

