-- ==== Sys2Proof/Machine/Ops.lean ====
section
/-! DEFINITION. The named operations over the state: the port primitives (spec/20_memory.md R51 to R54), the sampler
register fields and the converter behind them (R57; spec/41_sampler.md R137 to R140), and how an operation ends, with a
result or with an error (spec/60_exceptions.md R170, R175, R176). -/

namespace Sys2Proof.Machine

open Host (Outcome)

/-! ### Ports -/

/-- Bit `k` of a latch. -/
def Port.bit (p : Port) (k : Nat) : Bool := p.bits.getLsbD k

/-- `x[P] <- x[P] | m` (R51), at every bit of the latch. DESIGN CHOICE (log entry 17) for a bit configured as an input, of which
R55 and N29 say that the source is silent: its latch bit changes too, and the level on its pin does not. -/
def Port.set (p : Port) (m : Nat) : Port := ⟨p.width, p.bits ||| BitVec.ofNat p.width m⟩

/-- `x[P] <- x[P] & ~m` (R52), at every bit of the latch. DESIGN CHOICE (log entry 17) for a bit configured as an input, as in
`Port.set`. -/
def Port.clr (p : Port) (m : Nat) : Port := ⟨p.width, p.bits &&& ~~~(BitVec.ofNat p.width m)⟩

/-- The value of `P.read(m)` (R53), given which bits are outputs of the block and the levels on the pins: an output bit
reads as the latch, any other as its pin, and a bit outside the mask as 0. -/
def Port.readValue (p : Port) (outputs levels m : Nat) : Nat :=
  let outs : BitVec p.width := BitVec.ofNat p.width outputs
  let seen := (p.bits &&& outs) ||| (BitVec.ofNat p.width levels &&& ~~~outs)
  (seen &&& BitVec.ofNat p.width m).toNat

/-- Record one event of the call trace (R8). -/
def State.emit (s : State) (e : Event) : State := { s with trace := s.trace ++ [e] }

/-- `wait(d)` (R186): an event, and nothing else (R18). -/
def State.wait (s : State) (d : Nat) : State := s.emit (.wait d)

/-- `PA.set(m)` (R51). -/
def State.paSet (s : State) (m : Nat) : State := { s with pa := s.pa.set m, trace := s.trace ++ [.paSet m] }

/-- `PA.clr(m)` (R52). -/
def State.paClr (s : State) (m : Nat) : State := { s with pa := s.pa.clr m, trace := s.trace ++ [.paClr m] }

/-- `PB.set(m)` (R51). -/
def State.pbSet (s : State) (m : Nat) : State := { s with pb := s.pb.set m, trace := s.trace ++ [.pbSet m] }

/-- `PB.clr(m)` (R52). Offered by the port; no rule of the spec issues it (R8). -/
def State.pbClr (s : State) (m : Nat) : State := { s with pb := s.pb.clr m, trace := s.trace ++ [.pbClr m] }

/-- The levels that the pins environment drives at this instant (R24): the next of the listed ones, or a free value. -/
def State.levels (s : State) : Nat :=
  match s.pins with
  | [] => Config.freePins s.draws
  | l :: _ => l

/-- The instant is past: the next read sees other levels. -/
def State.dropLevels (s : State) : State :=
  match s.pins with
  | [] => { s with draws := s.draws + 1 }
  | _ :: ls => { s with pins := ls }

/-- What `PA.read(m)` returns now (R53). -/
def State.paReadValue (s : State) (m : Nat) : Nat := s.pa.readValue (blockMaskA s.cfg) s.levels m

/-- `PA.read(m) -> v` (R53): no effect on the block, one event of the call trace. -/
def State.paRead (s : State) (m : Nat) : State := s.dropLevels.emit (.paRead m (s.paReadValue m))

/-- What `PB.read(m)` returns now (R53). No rule reads PORT_B. DESIGN CHOICE (log entry 18): the spec names no input of PORT_B;
its pins that are not routing bits take their levels from the pattern that the next read of PORT_A would see, and reading them
uses no pattern up. -/
def State.pbReadValue (s : State) (m : Nat) : Nat := s.pb.readValue (blockMaskB s.cfg) s.levels m

/-- `MemWrite(PA, m, v)`, "the pair `P.clr(m); P.set(v & m)`" (R17). Used by no rule. -/
def State.paWrite (s : State) (m v : Nat) : State := (s.paClr m).paSet (v &&& m)

/-- `MemWrite(PB, m, v)` (R17). Used by no rule. -/
def State.pbWrite (s : State) (m v : Nat) : State := (s.pbClr m).pbSet (v &&& m)

/-- The channels whose routing bit is 1, `routed` (R25). -/
def State.isRouted (s : State) (c : Nat) : Bool := decide (c < 8) && s.pb.bit (s.cfg.routeShift + c)

/-! ### Sampler registers -/

/-- SMP_CTRL as the 18-bit word of R26. -/
def State.smpCtrl (s : State) : BitVec 18 := BitVec.ofBool s.start ++ BitVec.ofBool s.pdn ++ s.clkdiv ++ s.sel

/-- SMP_DATA as the 13-bit word of R27. -/
def State.smpData (s : State) : BitVec 13 := BitVec.ofBool s.done ++ s.result

/-- `SEL <- v`: "changes SEL and no other field" (R57). -/
def State.writeSel (s : State) (v : Byte) : State := { s with sel := v }

/-- `CLKDIV <- v` (R57, R143). -/
def State.writeClkdiv (s : State) (v : Byte) : State := { s with clkdiv := v }

/-- `PDN <- 1` (R57). -/
def State.powerOn (s : State) : State := { s with pdn := true }

/-- The converter's answer to the conversion being triggered: the next of the listed ones, or a free value (R9, R138). -/
def State.nextAnswer (s : State) : ConverterAnswer :=
  match s.answers with
  | [] => Config.freeAnswer s.draws
  | a :: _ => a

/-- The conversion takes its answer. -/
def State.takeAnswer (s : State) : State :=
  match s.answers with
  | [] => { s with answer := Config.freeAnswer s.draws, draws := s.draws + 1 }
  | a :: as => { s with answer := a, answers := as }

/-- `START <- 1`, the trigger (R137): START becomes 1, DONE becomes 0 and `conv` becomes `some c`, for SEL = `1 << c` and
PDN = 1. With PDN = 0, or with SEL not one-hot, a fault (R137, R141). -/
def State.trigger (s : State) : Outcome State Fault Refusal :=
  match selectedChannel s.sel with
  | none => .fault .triggerNotOneHot
  | some c =>
    if s.pdn then .next { s.takeAnswer with start := true, done := false, conv := some c }
    else .fault .triggerUnpowered

/-- `START <- 0` (R140): a conversion in flight is abandoned. -/
def State.stopConversion (s : State) : State := { s with start := false, conv := none }

/-- The completion step (R138): RESULT and DONE together, START when the converter clears it itself, `conv` none. -/
def State.complete (s : State) : State :=
  { s with result := s.answer.sample, done := true, start := s.start && !s.answer.selfClear, conv := none }

/-- The converter's turn before a poll (R70, R133): while a conversion is in flight it may take its completion step, when
its answer says so. -/
def State.converterTurn (s : State) : State :=
  match s.conv, s.answer.delay with
  | none, _ => s
  | some _, none => s
  | some _, some 0 => s.complete
  | some _, some (n + 1) => { s with answer := { s.answer with delay := some n } }

/-! ### The end of an operation -/

/-- After the response the operand latches are "dead" and "unspecified" (R21): each takes a free value. -/
def State.retireLatches (s : State) : State :=
  { s with
    lcdByte := Config.freeByte s.draws
    lcdMode := Config.freeMode s.draws
    nib := Config.freeNib s.draws
    ch := Config.freeCh s.draws
    draws := s.draws + 1 }

/-- `return (status, value)` (R17, R80): the response word, and the sequencer idle (R28). -/
def State.respond (s : State) (st : Status) (v : BitVec 12) : State :=
  { s with rsps := s.rsps ++ [responseWord st v], seq := .idle }

/-- `raise E` (R170, R175): the block's way of taking an exception. It "does not transfer control anywhere, save any
state, change any mode or mask": the operation ends with the response (E, 0) and the block is idle. "There is no return
operation because nothing was entered" (R176). -/
def State.raise (s : State) (e : Status) : State := s.respond e 0

/-- The answer to an illegal request word (R79, R173): no state change and no event. -/
def State.rejectIllegal (s : State) : State := s.raise .protocolAssertion

end Sys2Proof.Machine
end

