-- ==== Sys2Proof/Machine/Display.lean ====
section
/-! DEFINITION. The Display Driver family (spec/40_display.md): the nibble and byte transfers, the settle after a byte, the
operations LCD_INIT, LCD_CMD and LCD_DATA, and the display scripts (spec/42_alert.md R157), which are made of them. -/

namespace Sys2Proof.Machine

open Host (Outcome)

/-- INIT_ROM (R30). -/
def initRom : List Byte := [0x33, 0x32, 0x28, 0x0C, 0x06, 0x01]

/-- CLEAR_CLASS = (0x01, 0x02, 0x03), the "clear/home" commands (R102). -/
def inClearClass (b : Byte) : Bool := b == 0x01 || b == 0x02 || b == 0x03

/-- The initialisation pseudo-commands, which "send only the upper nibble" (R101): command mode and exactly 0x30 or 0x20. -/
def singleNibble (m : Bool) (b : Byte) : Bool := !m && (b == 0x30 || b == 0x20)

/-- SETTLE(m, b) (R102). -/
def settle (c : Config) (m : Bool) (b : Byte) : Nat :=
  if m then c.tDataSettle else if inClearClass b then c.tClearSettle else c.tCmdSettle

/-- Drive RS to the level `m` (R100, event 3). -/
def driveRs (s : State) (m : Bool) : State := if m then s.paSet (rsMask s.cfg) else s.paClr (rsMask s.cfg)

/-- XFER(m, n), the nibble transfer (R100): seven events, "in this order and no other". -/
def xfer (s : State) (m : Bool) (n : Nibble) : State :=
  let s := { s with nib := n }
  let s := s.paClr (dataMask s.cfg)
  let s := s.paSet (nibbleMask s.cfg n)
  let s := driveRs s m
  let s := s.paSet (enMask s.cfg)
  let s := s.wait s.cfg.tPulse
  let s := s.paClr (enMask s.cfg)
  s.wait s.cfg.tXferSettle

/-- BYTE(m, b), the byte transfer (R101): upper nibble first, the lower one unless the byte is single-nibble. -/
def byteXfer (s : State) (m : Bool) (b : Byte) : State :=
  let s := { s with lcdByte := b, lcdMode := m, rsMode := m }
  let s := xfer s m (highNibble b)
  if singleNibble m b then s else xfer s m (lowNibble b)

/-- Steps 1 and 2 of LCD_CMD and LCD_DATA, and one entry of LCD_INIT or of a script (R103 to R105, R157): the byte, then
its settle. -/
def byteAndSettle (s : State) (m : Bool) (b : Byte) : State :=
  let s := byteXfer s m b
  s.wait (settle s.cfg m b)

/-- The loop of LCD_INIT over the entries of INIT_ROM (R105). -/
def sendCommands (s : State) : List Byte → State
  | [] => s
  | b :: bs => sendCommands (byteAndSettle s false b) bs

/-- One script item (R157). -/
def scriptItem (s : State) : ScriptItem → State
  | .cmd b => byteAndSettle s false b
  | .data b => byteAndSettle s true b

/-- The items of a script in list order (R157). -/
def scriptItems (s : State) : List ScriptItem → State
  | [] => s
  | i :: is => scriptItems (scriptItem s i) is

/-- `run SCRIPT` (R157). "An empty script issues no event", and writes nothing; any other leaves dead operand latches
(R21). -/
def runScript (s : State) (items : List ScriptItem) : State :=
  match items with
  | [] => s
  | i :: is => (scriptItems s (i :: is)).retireLatches

/-- LCD_INIT (R105): the power-up settle, then the six entries of INIT_ROM. -/
def execLcdInit (s : State) : Outcome State Fault Refusal :=
  let s := s.wait s.cfg.tPowerup
  let s := sendCommands s initRom
  .next (s.retireLatches.respond .ok 0)

/-- LCD_CMD b (R103). -/
def execLcdCmd (b : Byte) (s : State) : Outcome State Fault Refusal :=
  .next ((byteAndSettle s false b).retireLatches.respond .ok 0)

/-- LCD_DATA b (R104). -/
def execLcdData (b : Byte) (s : State) : Outcome State Fault Refusal :=
  .next ((byteAndSettle s true b).retireLatches.respond .ok 0)

end Sys2Proof.Machine
end

