-- ==== Sys2Proof/Machine/Alert.lean ====
section
/-! DEFINITION. The Debounced Event State Machine family (spec/42_alert.md): ALERT_OBS, ALERT_ACK and the hooks. -/

namespace Sys2Proof.Machine

open Host (Outcome)

/-- The machine enters `a`, with the counter reset (R152, R154, R158). -/
def State.enterAlertState (s : State) (a : AlertState) : State := { s with alertState := a, persistCnt := 0 }

/-- `onAlertEntered()` (R156): the display update, then the buzzer on. -/
def onAlertEntered (s : State) : State :=
  let s := runScript s s.cfg.msgAlert
  s.paSet (buzzMask s.cfg)

/-- `onAlertCleared()` (R156): the display update, then the buzzer off. -/
def onAlertCleared (s : State) : State :=
  let s := runScript s s.cfg.msgClear
  s.paClr (buzzMask s.cfg)

/-- `onAcknowledged()` (R156): "its own display message and actuator-off". -/
def onAcknowledged (s : State) : State :=
  let s := runScript s s.cfg.msgAck
  s.paClr (buzzMask s.cfg)

/-- The response of an Alert Machine operation (R164). -/
def respondAlert (s : State) (transitioned : Bool) : State :=
  s.respond .ok (alertValue s.alertState transitioned)

/-- A false observation in Alert (R153(b), R154): increment, then compare. -/
def observeFalseInAlert (s : State) : State :=
  let s := { s with persistCnt := s.persistCnt + 1 }
  if s.cfg.threshold ≤ s.persistCnt.toNat then respondAlert (onAlertCleared (s.enterAlertState .quiescent)) true
  else respondAlert s false

/-- ALERT_OBS t (R151). -/
def execAlertObs (t : Bool) (s : State) : Outcome State Fault Refusal :=
  match s.alertState, t with
  | .quiescent, true => .next (respondAlert (onAlertEntered (s.enterAlertState .alert)) true)
  | .quiescent, false => .next (respondAlert s false)
  | .alert, true => .next (respondAlert { s with persistCnt := 0 } false)
  | .alert, false => .next (observeFalseInAlert s)

/-- ALERT_ACK (R158). -/
def execAlertAck (s : State) : Outcome State Fault Refusal :=
  match s.alertState with
  | .alert => .next (respondAlert (onAcknowledged (s.enterAlertState .quiescent)) true)
  | .quiescent => .next (respondAlert s false)

end Sys2Proof.Machine
end

