-- ==== Sys2Proof/Machine/Sampler.lean ====
section
/-! DEFINITION. The Analog Sampler family (spec/41_sampler.md): ADC_CFG, ADC_READ and its poll. -/

namespace Sys2Proof.Machine

open Host (Outcome)

/-- ADC_CFG chset, div (R125). -/
def execAdcCfg (chset div : Byte) (s : State) : Outcome State Fault Refusal :=
  if badChannelSet s.cfg chset then .next (s.raise .configurationError)
  else
    let s := s.powerOn
    let s := s.pbSet (routeMask s.cfg chset)
    let s := s.writeClkdiv div
    .next (s.respond .ok 0)

/-- The check of ADC_READ's step 1 (R126, R172): the channel is 8 or more, unsupported, or not routed. -/
def badChannel (s : State) (ch : Byte) : Bool :=
  decide (8 ≤ ch.toNat) || !s.cfg.supportedCh.getLsbD ch.toNat || !s.isRouted ch.toNat

/-- Steps 6 to 8 of ADC_READ (R126, R134, R135): the result, START cleared, the response. -/
def finishRead (s : State) : State :=
  let v := s.result
  (s.stopConversion.retireLatches).respond .ok v

/-- The timeout exit of ADC_READ's step 5 (R126, R171): START cleared, then the error. -/
def timeoutRead (s : State) : State := (s.stopConversion.retireLatches).raise .samplerTimeout

/-- One turn of ADC_READ's poll loop (R126 step 5, R133), after `polls` polls that read 0: the converter's turn, then one
read of DONE. -/
def pollOnce (s : State) (polls : Nat) : State :=
  let s := s.converterTurn
  if s.done then finishRead s
  else if s.cfg.pollLimit = some (polls + 1) then timeoutRead s
  else { s with seq := .polling (polls + 1) }

/-- At most `n` turns of the poll loop. -/
def pollLoop (n : Nat) (s : State) : State :=
  match n with
  | 0 => s
  | n + 1 =>
    match s.seq with
    | .idle => s
    | .polling polls => pollLoop n (pollOnce s polls)

/-- How many turns the loop takes: up to the poll that reads 1, or to the poll limit. When neither comes (POLL_LIMIT
infinite and a converter that never completes) the loop does not end (R174): one turn is taken, the block stays at the
poll, and every further step is one more turn. -/
def pollTurns (limit : Option Nat) (delay : Option Nat) : Nat :=
  match limit, delay with
  | none, none => 1
  | none, some d => d + 1
  | some n, none => n
  | some n, some d => min n (d + 1)

/-- ADC_READ ch (R126). -/
def execAdcRead (ch : Byte) (s : State) : Outcome State Fault Refusal :=
  if badChannel s ch then .next (s.raise .configurationError)
  else
    let s := { s with ch := ch }
    let s := s.writeSel 0
    let s := s.writeSel (oneHot ch.toNat)
    match s.trigger with
    | .next s => .next (pollLoop (pollTurns s.cfg.pollLimit s.answer.delay) { s with seq := .polling 0 })
    | .fault r => .fault r
    | .refused r => .refused r

end Sys2Proof.Machine
end

