-- ==== Sys2Proof/Machine/Dispatch.lean ====
section
/-! DEFINITION. One arm for each operation of spec/30_encoding.md R77. -/

namespace Sys2Proof.Machine

def exec (i : Instr) (s : State) : Host.Outcome State Fault Refusal :=
  match i with
  | .lcdInit => Sys2Proof.Machine.execLcdInit s
  | .lcdCmd b => Sys2Proof.Machine.execLcdCmd b s
  | .lcdData b => Sys2Proof.Machine.execLcdData b s
  | .adcCfg chset div => Sys2Proof.Machine.execAdcCfg chset div s
  | .adcRead ch => Sys2Proof.Machine.execAdcRead ch s
  | .alertObs t => Sys2Proof.Machine.execAlertObs t s
  | .alertAck => Sys2Proof.Machine.execAlertAck s

end Sys2Proof.Machine
end

