-- ==== Sys2Proof/Machine/Glue.lean ====
section
/-! DEFINITION. The host's side of the request port (spec/30_encoding.md R86 to R89): presenting a request word, and the
pseudo-instructions that its program may hold besides. -/

namespace Sys2Proof.Machine

open Host (Outcome)

/-- A request word is accepted and run (R78, R79, R89): the operation it decodes to, or the answer to an illegal word. -/
def present (w : Request) (s : State) : Outcome State Fault Refusal :=
  match decode w with
  | .op i => exec i s
  | .illegal _ => .next s.rejectIllegal

/-- ALERT_OBS_PIN (R87, R159): `v <- PA.read(PIR_MASK); ALERT_OBS (1 if v != 0 else 0)`. -/
def runAlertObsPin (s : State) : Outcome State Fault Refusal :=
  exec (.alertObs (levelHigh (s.paReadValue (pirMask s.cfg)))) (s.paRead (pirMask s.cfg))

/-- ALERT_ACK_PIN (R87, R158): `v <- PA.read(ACK_MASK); if v != 0 then ALERT_ACK else skip`. -/
def runAlertAckPin (s : State) : Outcome State Fault Refusal :=
  if levelHigh (s.paReadValue (ackMask s.cfg)) then exec .alertAck (s.paRead (ackMask s.cfg))
  else .next (s.paRead (ackMask s.cfg))

/-- The second half of ALERT_OBS_ADC (R87, R160): with the response `r` of the read, `if r.STATUS = OK then ALERT_OBS (1 if
r.VALUE < TRIG_LEVEL else 0) else skip`. -/
def runAlertObsOfSample (s : State) : Outcome State Fault Refusal :=
  match s.rsps.getLast? with
  | none => .next s
  | some r =>
    if responseStatus r = Status.ok.code then exec (.alertObs (belowTrigger s.cfg (responseValue r))) s
    else .next s

/-- The host issues the next item of its program (R88): each waits for the response of the one before. LCD_STR is one
LCD_DATA per element, "in order; no batching, no early exit" (R86); ALERT_OBS_ADC is an ADC_READ and then, once its
response is there, the observation (R87). -/
def issue (item : HostItem) (rest : List HostItem) (s : State) : Outcome State Fault Refusal :=
  match item with
  | .request w => present w { s with program := rest }
  | .lcdStr [] => .next { s with program := rest }
  | .lcdStr (c :: cs) => exec (.lcdData c) { s with program := .lcdStr cs :: rest }
  | .alertObsPin => runAlertObsPin { s with program := rest }
  | .alertObsAdc c => exec (.adcRead c) { s with program := .alertObsOfSample :: rest }
  | .alertObsOfSample => runAlertObsOfSample { s with program := rest }
  | .alertAckPin => runAlertAckPin { s with program := rest }

/-- What happens next (R7, R28, R89, R201): a poll in progress takes one more turn, and nothing is accepted meanwhile; an
idle block takes the host's next item; with no item left it "holds its state indefinitely" (R10). -/
def advance (s : State) : Outcome State Fault Refusal :=
  match s.seq with
  | .polling polls => .next (pollOnce s polls)
  | .idle =>
    match s.program with
    | [] => .next s
    | item :: rest => issue item rest s

/-- A list of operations, each after the response of the one before (R88). -/
def runOps : List Instr → State → Outcome State Fault Refusal
  | [], s => .next s
  | i :: is, s =>
    match exec i s with
    | .next t => runOps is t
    | .fault r => .fault r
    | .refused r => .refused r

end Sys2Proof.Machine
end

