-- ==== Sys2Proof/Machine/Step.lean ====
section
/-! DEFINITION. One step of the machine: one operation of the block (spec/00_scope.md R7), or one turn of a poll that does
not end (spec/60_exceptions.md R174). -/

namespace Sys2Proof.Machine

open Host (Outcome)

/-- One step. A configuration that is not well-formed is refused (R15). -/
def step (s : State) : Outcome State Fault Refusal :=
  if s.cfg.wf then advance s else .refused .malformedConfig

/-- The request word `w` (bits from `nbits` up zero) stands at the request port: it is the host's next item, and the block
is idle, so that the next step accepts and runs it (R89). -/
def State.withFetchWord (s : State) (nbits w : Nat) : State :=
  { s with seq := .idle, program := .request (BitVec.ofNat 32 (w % 2 ^ nbits)) :: s.program.drop 1 }

end Sys2Proof.Machine
end

