-- ==== Sys2Proof/Machine/Scaling.lean ====
section
/-! DEFINITION. VOLT s, the sample-to-voltage scaling (spec/41_sampler.md R142): "a pure function, holds no state, issues no
event and is not a request". -/

namespace Sys2Proof.Machine

/-- The exact value: `sample × referenceVoltage / maxSampleValue` (R142). -/
def volt (s : Sample) : Rat := (s.toNat : Rat) * Config.vref / Config.maxSample

/-- A machine number: the exact value under "a rounding function it takes as a parameter" (R142, D27). -/
def voltRounded {α : Type} (round : Rat → α) (s : Sample) : α := round (volt s)

end Sys2Proof.Machine
end

