-- ==== Sys2Proof/Machine/Traces.lean ====
section
/-! DEFINITION. What is observed of a call trace: the pin trace and the strobe trace (spec/00_scope.md R8, spec/20_memory.md
R59), and the stability of RS and the data lines under the strobe (R58). Each is a function of the PORT_A latch before the
events and of the events. -/

namespace Sys2Proof.Machine

/-- The PORT_A latch after an event (R51, R52). -/
def latchAfter (p : Port) : Event → Port
  | .paSet m => p.set m
  | .paClr m => p.clr m
  | .pbSet _ => p
  | .pbClr _ => p
  | .paRead _ _ => p
  | .wait _ => p

/-- The PORT_B latch after an event (R51, R52). -/
def latchBAfter (p : Port) : Event → Port
  | .pbSet m => p.set m
  | .pbClr m => p.clr m
  | .paSet _ => p
  | .paClr _ => p
  | .paRead _ _ => p
  | .wait _ => p

/-- An entry of the pin trace (R8(d)): a value of the latch, or a wait kept in place. -/
inductive PinEntry where
  | level (v : Nat)
  | wait (d : Nat)
deriving DecidableEq, Repr

/-- The pin trace (R8(d)): the latch after each `PA.set` and `PA.clr`, the waits kept in place. -/
def pinTrace (p : Port) : List Event → List PinEntry
  | [] => []
  | .paSet m :: es => .level (p.set m).bits.toNat :: pinTrace (p.set m) es
  | .paClr m :: es => .level (p.clr m).bits.toNat :: pinTrace (p.clr m) es
  | .wait d :: es => .wait d :: pinTrace p es
  | .pbSet _ :: es => pinTrace p es
  | .pbClr _ :: es => pinTrace p es
  | .paRead _ _ :: es => pinTrace p es

/-- The nibble on the data lines, `(x[PA] >> DATA_SHIFT)[3:0]` (R59). -/
def dataLines (c : Config) (p : Port) : Nibble := BitVec.ofNat 4 (p.bits.toNat >>> c.dataShift)

/-- A falling edge of EN (R59): `PA.clr(m)` with `m & EN_MASK != 0`, executed when the EN bit of the latch is 1. -/
def fallsEn (c : Config) (p : Port) : Event → Bool
  | .paClr m => m.testBit c.enBit && p.bit c.enBit
  | .paSet _ => false
  | .pbSet _ => false
  | .pbClr _ => false
  | .paRead _ _ => false
  | .wait _ => false

/-- The strobe trace (R59): at each falling edge of EN the pair (RS, nibble), "taken from the latch immediately before the
event". DESIGN CHOICE (log entry 19) for events whose RS or data lines move while EN is high, which R58 says have no defined
strobe trace: what the walk of R59 computes. -/
def strobes (c : Config) (p : Port) : List Event → List (Bool × Nibble)
  | [] => []
  | e :: es =>
    let rest := strobes c (latchAfter p e) es
    if fallsEn c p e then (p.bit c.rsBit, dataLines c p) :: rest else rest

/-- RS and the data lines do not change while EN is high (R58, R107). -/
def stableUnderStrobe (c : Config) (p : Port) : List Event → Bool
  | [] => true
  | e :: es =>
    let q := latchAfter p e
    (!p.bit c.enBit || (q.bit c.rsBit == p.bit c.rsBit && dataLines c q == dataLines c p))
      && stableUnderStrobe c q es

/-- The sum of the wait arguments: "the minimum time an operation takes" (R215). -/
def waitTotal : List Event → Nat
  | [] => 0
  | .wait d :: es => d + waitTotal es
  | .paSet _ :: es => waitTotal es
  | .paClr _ :: es => waitTotal es
  | .pbSet _ :: es => waitTotal es
  | .pbClr _ :: es => waitTotal es
  | .paRead _ _ :: es => waitTotal es

end Sys2Proof.Machine
end

