-- ==== Sys2Proof/Safety.lean ====
section
/-! DEFINITION. The terms claims use: the invariant of spec/10_state.md R35, extended to the poll in progress; when an
operation is ready to run; and what it means that a part of the state is unchanged. -/

namespace Sys2Proof.Machine

/-- What holds of every state that a run from reset reaches, at rest (R35) and between two polls. -/
structure State.Inv (s : State) : Prop where
  /-- R15. -/
  cfgWellFormed : s.cfg.wf = true
  /-- PA and PB are PORT_W bits wide (R23, R25). -/
  portsWide : s.pa.width = s.cfg.portW ∧ s.pb.width = s.cfg.portW
  /-- R35(a). -/
  quiescentCount : s.alertState = .quiescent → s.persistCnt = 0
  /-- R35(b). -/
  alertCount : s.alertState = .alert → s.persistCnt.toNat < s.cfg.threshold
  /-- R35(c). -/
  enLow : s.pa.bit s.cfg.enBit = false
  /-- R35(d). -/
  rsAgrees : s.pa.bit s.cfg.rsBit = s.rsMode
  /-- R35(e). -/
  buzzAgrees : s.pa.bit s.cfg.buzzBit = s.alertState.bit
  /-- R35(f). -/
  selRouted : s.sel = 0 ∨ ∃ c : Channel, s.sel = oneHot c.val ∧ s.isRouted c.val = true
  /-- R35(g). -/
  idleQuiet : s.seq = .idle → s.start = false ∧ s.conv = none
  /-- R35(h) and (i), as far as they speak of the state alone: every ADC_CFG that returned OK set PDN and routed at least
  one channel, so PDN = 1 exactly when `routed` is not empty. -/
  poweredIffRouted : s.pdn = true ↔ ∃ c : Channel, s.isRouted c.val = true
  /-- Between two polls the triggered conversion is in flight, of the selected channel, with START = 1 and DONE = 0, and
  the poll limit is not reached (R126, R133, R137). -/
  pollInFlight : ∀ polls, s.seq = .polling polls →
    s.start = true ∧ s.done = false ∧ s.pdn = true
      ∧ (∃ c : Channel, s.conv = some c ∧ s.sel = oneHot c.val ∧ s.isRouted c.val = true)
      ∧ (∀ n, s.cfg.pollLimit = some n → polls < n)

/-- A state in which a display operation finds the lines as R100 assumes: a well-formed configuration, a latch of its
width, and EN low (the precondition of R100, R35(c)). -/
structure State.DisplayReady (s : State) : Prop where
  cfgWellFormed : s.cfg.wf = true
  wide : s.pa.width = s.cfg.portW
  enLow : s.pa.bit s.cfg.enBit = false

/-- A channel that ADC_READ converts (R126 step 1) with the converter powered (R137): 0 to 7, supported, routed. -/
structure State.ChannelReady (s : State) (ch : Byte) : Prop where
  below : ch.toNat < 8
  supported : s.cfg.supportedCh.getLsbD ch.toNat = true
  routed : s.isRouted ch.toNat = true
  powered : s.pdn = true

/-- The seven events of the nibble transfer XFER(m, n), written out from R100. -/
def xferEvents (c : Config) (m : Bool) (n : Nibble) : List Event :=
  [ .paClr (dataMask c),
    .paSet (nibbleMask c n),
    if m then .paSet (rsMask c) else .paClr (rsMask c),
    .paSet (enMask c),
    .wait c.tPulse,
    .paClr (enMask c),
    .wait c.tXferSettle ]

/-- The nibbles that a byte is presented as, in order (R101): the upper one and then the lower one, or the upper one alone
for the commands 0x30 and 0x20. -/
def byteNibbles (m : Bool) (b : Byte) : List Nibble :=
  if m = false ∧ (b = 0x30 ∨ b = 0x20) then [b.extractLsb' 4 4] else [b.extractLsb' 4 4, b.extractLsb' 0 4]

/-- The wait after a byte, written out from R102. -/
def byteWait (c : Config) (m : Bool) (b : Byte) : Nat :=
  if m = true then c.tDataSettle
  else if b = 0x01 ∨ b = 0x02 ∨ b = 0x03 then c.tClearSettle
  else c.tCmdSettle

/-- The events of one byte and its settle: the steps 1 and 2 of R103 and R104. -/
def byteEvents (c : Config) (m : Bool) (b : Byte) : List Event :=
  (byteNibbles m b).flatMap (xferEvents c m) ++ [.wait (byteWait c m b)]

/-- The strobes of one byte: one pair (RS, nibble) for each transfer (R103, R104). -/
def byteStrobes (m : Bool) (b : Byte) : List (Bool × Nibble) := (byteNibbles m b).map (fun n => (m, n))

/-- The mode and the byte of a script item (R157). -/
def itemMode : ScriptItem → Bool
  | .cmd _ => false
  | .data _ => true

/-- The byte of a script item (R157). -/
def itemByte : ScriptItem → Byte
  | .cmd b => b
  | .data b => b

/-- The events of a display script, item by item (R157). -/
def scriptEvents (c : Config) (items : List ScriptItem) : List Event :=
  items.flatMap (fun i => byteEvents c (itemMode i) (itemByte i))

/-- The strobes of a display script. -/
def scriptStrobes (items : List ScriptItem) : List (Bool × Nibble) :=
  items.flatMap (fun i => byteStrobes (itemMode i) (itemByte i))

/-- The mode that `rs_mode` records after a display script: that of its last item (R22), or the mode before an empty one. -/
def scriptMode (items : List ScriptItem) (before : Bool) : Bool := items.foldl (fun _ i => itemMode i) before

/-- The last nibble that a byte puts on the data lines, where it stays (R100, R103). -/
def lastNibble (m : Bool) (b : Byte) : Nibble :=
  if m = false ∧ (b = 0x30 ∨ b = 0x20) then b.extractLsb' 4 4 else b.extractLsb' 0 4

/-- Bit `k` of PORT_A after a byte `b` of mode `m` (R100, R103, R104): the data lines hold its last nibble, RS is `m`, EN is
0, and every other bit is what it was. -/
def lineAfterByte (c : Config) (m : Bool) (b : Byte) (before : Bool) (k : Nat) : Bool :=
  if c.dataShift ≤ k ∧ k < c.dataShift + 4 then (lastNibble m b).getLsbD (k - c.dataShift)
  else if k = c.rsBit then m
  else if k = c.enBit then false
  else before

/-- The sampler's registers, its routing and the conversion in flight are unchanged. -/
structure SameSampler (s t : State) : Prop where
  pb : t.pb = s.pb
  sel : t.sel = s.sel
  clkdiv : t.clkdiv = s.clkdiv
  pdn : t.pdn = s.pdn
  start : t.start = s.start
  result : t.result = s.result
  done : t.done = s.done
  conv : t.conv = s.conv

/-- The Alert Machine is unchanged. -/
structure SameAlert (s t : State) : Prop where
  alertState : t.alertState = s.alertState
  persistCnt : t.persistCnt = s.persistCnt

/-- The display lines and `rs_mode` are unchanged. -/
structure SameDisplay (s t : State) : Prop where
  rsMode : t.rsMode = s.rsMode
  pa : t.pa = s.pa

/-- The operand latches are unchanged. -/
structure SameLatches (s t : State) : Prop where
  lcdByte : t.lcdByte = s.lcdByte
  lcdMode : t.lcdMode = s.lcdMode
  nib : t.nib = s.nib
  ch : t.ch = s.ch

/-- The configuration and what the host has still to issue are unchanged. -/
structure SameHost (s t : State) : Prop where
  cfg : t.cfg = s.cfg
  program : t.program = s.program

/-- The agents outside the block have given no answer and no level. -/
structure SameOracles (s t : State) : Prop where
  answers : t.answers = s.answers
  answer : t.answer = s.answer
  pins : t.pins = s.pins

/-- The PORT_A bits from `lo` to `lo + 3` are the block's data lines, and the bits RS, EN and BUZZ its other outputs. -/
def blockBitA (c : Config) (k : Nat) : Bool :=
  (decide (c.dataShift ≤ k) && decide (k < c.dataShift + 4)) || k == c.rsBit || k == c.enBit || k == c.buzzBit

/-- The routing bits of PORT_B. -/
def blockBitB (c : Config) (k : Nat) : Bool := decide (c.routeShift ≤ k) && decide (k < c.routeShift + 8)

end Sys2Proof.Machine
end

