-- ==== Sys2Proof/Certificates/Slice0/Obligations.lean ====
section
/-! DEFINITION. The statements for the provers, from the numbered rules of spec/. Each names in its docstring the rule it
formalises. `∃ t, exec i s = .next t ∧ ...` says that the operation completes, and what it leaves. Where an operation
writes the operand latches (R21) they are free values afterwards, and no statement says what they then hold. -/

open Sys2Proof Sys2Proof.Machine

/-! ### Encoding -/

/-- R76 to R78: the word of an operation decodes to that operation, with every operand at every value. -/
def Obligations.EncodeThenDecode : Prop :=
  ∀ i : Instr, i.wf = true → decode (encode i) = .op i

/-- R77, R78: a word that decodes to an operation is that operation's word, so no two words mean the same. -/
def Obligations.DecodeThenEncode : Prop :=
  ∀ (w : Request) (i : Instr), decode w = .op i → encode i = w

/-- R77: "The rows are disjoint: no word selects two." -/
def Obligations.OpcodeRowsAreDisjoint : Prop :=
  ∀ w : Request, (opcodeMap.filter (fun r => r.selects w)).length ≤ 1

/-- R79: the words that are illegal, and the block's answer to one: ProtocolAssertion with VALUE 0, no event, no change of
state. (That the host's program has moved past the word is the model's own: log entry 7.) -/
def Obligations.IllegalWordsAnswerProtocolAssertion : Prop :=
  ∀ w : Request,
    ((∃ why, decode w = .illegal why) ↔
      (7 ≤ (w.extractLsb' 28 4).toNat ∨ w.extractLsb' 16 12 ≠ 0
        ∨ (w.extractLsb' 28 4 ≠ 3 ∧ w.extractLsb' 8 8 ≠ 0)
        ∨ ((w.extractLsb' 28 4 = 0 ∨ w.extractLsb' 28 4 = 6) ∧ w.extractLsb' 0 8 ≠ 0)
        ∨ (w.extractLsb' 28 4 = 5 ∧ w.extractLsb' 1 7 ≠ 0)))
    ∧ ∀ (s : State) (rest : List HostItem), s.cfg.wf = true → s.seq = .idle → s.program = .request w :: rest →
        (∃ why, decode w = .illegal why) →
        step s = .next { s with program := rest, rsps := s.rsps ++ [0x3000#16] }

/-- The words that R85 writes out decode to the operations it names (a check of the decoder on fixed words). -/
def Obligations.WordsOfTheSpecDecode : Prop :=
  decode 0x00000000#32 = .op .lcdInit
  ∧ decode 0x10000028#32 = .op (.lcdCmd 0x28)
  ∧ decode 0x20000041#32 = .op (.lcdData 0x41)
  ∧ decode 0x30000130#32 = .op (.adcCfg 0x30 1)
  ∧ decode 0x40000004#32 = .op (.adcRead 4)
  ∧ decode 0x50000001#32 = .op (.alertObs true)
  ∧ decode 0x60000000#32 = .op .alertAck

/-- R80 to R82: RSP holds the status in its top four bits and the value in the lower twelve, with the codes of R81. -/
def Obligations.ResponseWordFields : Prop :=
  (∀ (st : Status) (v : BitVec 12),
    (responseWord st v).extractLsb' 12 4 = st.code ∧ (responseWord st v).extractLsb' 0 12 = v)
  ∧ Status.ok.code = 0 ∧ Status.samplerTimeout.code = 1 ∧ Status.configurationError.code = 2
  ∧ Status.protocolAssertion.code = 3

/-! ### The step -/

/-- R7, R78, R89: an idle block accepts the word that the host presents and runs the operation it decodes to. (That the host's
program is a list in State, and moves past the word, is the model's own: log entry 7.) -/
def Obligations.StepRunsTheDecodedOperation : Prop :=
  ∀ (s : State) (w : Request) (rest : List HostItem) (i : Instr),
    s.cfg.wf = true → s.seq = .idle → s.program = .request w :: rest → decode w = .op i →
      step s = exec i { s with program := rest }

/-- R10, R201: with nothing presented an idle block "holds its state indefinitely". (A step that changes nothing stands for
that: the model's own, log entry 7.) -/
def Obligations.StepHoldsAnIdleBlock : Prop :=
  ∀ s : State, s.cfg.wf = true → s.seq = .idle → s.program = [] → step s = .next s

/-- What a well-formed configuration is, in the model's reading of R15: R15 speaks of ten bit positions and lists nine, and that
the nine are all of them is the model's own (log entry 9). R15's clause on SUPPORTED_CH holds by the field's type. Any other
configuration is refused. -/
def Obligations.MalformedConfigurationIsRefused : Prop :=
  (∀ c : Config, c.wf = true ↔
    [c.dataShift, c.dataShift + 1, c.dataShift + 2, c.dataShift + 3, c.rsBit, c.enBit, c.buzzBit, c.pirBit, c.ackBit].Nodup
    ∧ (∀ p ∈ [c.dataShift, c.dataShift + 1, c.dataShift + 2, c.dataShift + 3, c.rsBit, c.enBit, c.buzzBit, c.pirBit, c.ackBit],
        p < c.portW)
    ∧ c.routeShift + 7 < c.portW ∧ 1 ≤ c.tPulse ∧ c.tDataSettle < c.tCmdSettle ∧ c.tCmdSettle < c.tClearSettle
    ∧ 1 ≤ c.threshold ∧ c.threshold ≤ 65535 ∧ c.trigLevel ≤ 4095 ∧ (∀ n, c.pollLimit = some n → 1 ≤ n))
  ∧ ∀ s : State, s.cfg.wf = false → step s = .refused .malformedConfig

/-- R89, R133, R192: while a poll is in progress a step is one turn of the poll and nothing that the host presents is accepted.
The converter completes before the poll (its `delay` is 0) and the read ends with its sample; or the poll reads 0 and the limit
is reached, and the read ends with SamplerTimeout; or the poll reads 0 and the block goes on polling. (That a poll in progress
is a state of its own, and that the converter's answer is data that counts down, are the model's own: log entries 4 and 8.) -/
def Obligations.PollTakesOneTurnAndAcceptsNothing : Prop :=
  ∀ (s : State) (polls : Nat) (c : Channel),
    s.cfg.wf = true → s.seq = .polling polls → s.conv = some c → s.done = false →
    ∃ t, step s = .next t ∧ t.program = s.program ∧ t.trace = s.trace ∧ SameAlert s t ∧ SameDisplay s t ∧ t.cfg = s.cfg
      ∧ t.pb = s.pb ∧ t.sel = s.sel ∧ t.clkdiv = s.clkdiv ∧ t.pdn = s.pdn
      ∧ (if s.answer.delay = some 0 then
          t.seq = .idle ∧ t.rsps = s.rsps ++ [responseWord .ok s.answer.sample] ∧ t.result = s.answer.sample ∧ t.done = true
            ∧ t.start = false ∧ t.conv = none
        else if s.cfg.pollLimit = some (polls + 1) then
          t.seq = .idle ∧ t.rsps = s.rsps ++ [0x1000#16] ∧ t.result = s.result ∧ t.done = false ∧ t.start = false
            ∧ t.conv = none
        else
          t.seq = .polling (polls + 1) ∧ t.rsps = s.rsps ∧ t.result = s.result ∧ t.done = false ∧ t.start = s.start
            ∧ t.conv = some c)

/-! ### Reset and the invariant -/

/-- R36, R200: the values that the spec gives the block's state at reset, in a block built with any configuration. -/
def Obligations.ResetValues : Prop :=
  ∀ c : Config, let s := State.resetWith c
    s.cfg = c ∧ s.rsMode = false
    ∧ s.pa.width = c.portW ∧ (∀ k, blockBitA c k = true → s.pa.bit k = false)
    ∧ s.pb.width = c.portW ∧ (∀ k, blockBitB c k = true → s.pb.bit k = false)
    ∧ s.sel = 0 ∧ s.clkdiv = 0 ∧ s.pdn = false ∧ s.start = false ∧ s.result = 0 ∧ s.done = false ∧ s.conv = none
    ∧ s.seq = .idle ∧ s.alertState = .quiescent ∧ s.persistCnt = 0

/-- R35, R36: the invariant holds at reset, in a block built with any well-formed configuration. -/
def Obligations.InvariantAtReset : Prop :=
  ∀ c : Config, c.wf = true → (State.resetWith c).Inv

/-- R35: every step keeps the invariant: the Alert Machine's counter below its threshold, EN low, RS and `rs_mode` agreed,
the buzzer on exactly in Alert, SEL empty or one routed channel, nothing in flight at rest, the converter powered exactly
when a channel is routed. (The clause on a poll in progress, `pollInFlight`, is the model's own: log entry 8.) -/
def Obligations.StepKeepsTheInvariant : Prop :=
  ∀ s t : State, s.Inv → step s = .next t → t.Inv

/-- R35, R137, R141: a state with the invariant takes a next state: neither fault of the trigger is ever reached, and
nothing is refused. -/
def Obligations.InvariantStatesNeverStop : Prop :=
  ∀ s : State, s.Inv → ∃ t, step s = .next t

/-- R33: the configuration is "a set of read-only constants": no step writes it. -/
def Obligations.StepNeverWritesTheConfiguration : Prop :=
  ∀ s t : State, step s = .next t → t.cfg = s.cfg

/-- R8, R66: the call trace only grows, and both latches are what the new events make of them: "no event is merged with,
dropped because of, or reordered". -/
def Obligations.EventsAccountForTheLatches : Prop :=
  ∀ s t : State, step s = .next t →
    ∃ es : List Event, t.trace = s.trace ++ es
      ∧ t.pa = es.foldl latchAfter s.pa
      ∧ t.pb = es.foldl latchBAfter s.pb

/-- R56: "no other bit of either port ever changes because of the block". -/
def Obligations.StepChangesOnlyTheBlocksBits : Prop :=
  ∀ s t : State, step s = .next t →
    (∀ k, blockBitA s.cfg k = false → t.pa.bit k = s.pa.bit k)
    ∧ (∀ k, blockBitB s.cfg k = false → t.pb.bit k = s.pb.bit k)

/-! ### Ports -/

/-- R51: `P.set(m)`, for PORT_A and PORT_B: the bits of the mask become 1, every other bit keeps its value; the event is in the
call trace, also for the mask 0, which changes nothing. (That this holds of a bit configured as an input too, where R55 says
that the source is silent, is the model's own: log entry 17.) -/
def Obligations.PortSetSetsTheMaskedBits : Prop :=
  ∀ (s : State) (m : Nat),
    (∀ k, k < s.pa.width → (s.paSet m).pa.bit k = (s.pa.bit k || m.testBit k))
    ∧ (∀ k, k < s.pb.width → (s.pbSet m).pb.bit k = (s.pb.bit k || m.testBit k))
    ∧ s.paSet m = { s with pa := (s.paSet m).pa, trace := s.trace ++ [.paSet m] }
    ∧ s.pbSet m = { s with pb := (s.pbSet m).pb, trace := s.trace ++ [.pbSet m] }
    ∧ (s.paSet m).pa.width = s.pa.width ∧ (s.pbSet m).pb.width = s.pb.width
    ∧ (s.paSet 0).pa = s.pa ∧ (s.pbSet 0).pb = s.pb

/-- R52: `P.clr(m)`, for PORT_A and PORT_B: the bits of the mask become 0, every other bit keeps its value; the event is in the
call trace, also for the mask 0, which changes nothing. (That this holds of a bit configured as an input too, where R55 says
that the source is silent, is the model's own: log entry 17.) -/
def Obligations.PortClearClearsTheMaskedBits : Prop :=
  ∀ (s : State) (m : Nat),
    (∀ k, k < s.pa.width → (s.paClr m).pa.bit k = (s.pa.bit k && !m.testBit k))
    ∧ (∀ k, k < s.pb.width → (s.pbClr m).pb.bit k = (s.pb.bit k && !m.testBit k))
    ∧ s.paClr m = { s with pa := (s.paClr m).pa, trace := s.trace ++ [.paClr m] }
    ∧ s.pbClr m = { s with pb := (s.pbClr m).pb, trace := s.trace ++ [.pbClr m] }
    ∧ (s.paClr m).pa.width = s.pa.width ∧ (s.pbClr m).pb.width = s.pb.width
    ∧ (s.paClr 0).pa = s.pa ∧ (s.pbClr 0).pb = s.pb

/-- R53: `PA.read(m)`: a bit of the mask reads as the latch where the block drives it and as the pin's level elsewhere, a bit
outside the mask as 0; the read is one event and changes nothing of the block. (The levels as data, and every bit that is not
the block's as an input, are the model's own: log entries 5 and 11.) -/
def Obligations.PortReadReturnsLevels : Prop :=
  ∀ (s : State) (m : Nat),
    (∀ k, k < s.pa.width → (s.paReadValue m).testBit k =
      (m.testBit k && (if blockBitA s.cfg k then s.pa.bit k else s.levels.testBit k)))
    ∧ (∀ k, s.pa.width ≤ k → (s.paReadValue m).testBit k = false)
    ∧ (s.paRead m).trace = s.trace ++ [.paRead m (s.paReadValue m)]
    ∧ (s.paRead m).rsps = s.rsps ∧ (s.paRead m).seq = s.seq ∧ SameSampler s (s.paRead m) ∧ SameAlert s (s.paRead m)
    ∧ SameDisplay s (s.paRead m) ∧ SameLatches s (s.paRead m) ∧ SameHost s (s.paRead m)

/-! ### Display Driver -/

/-- R100: XFER(m, n) is its seven events in their order; the data lines then hold the nibble, RS the mode, EN is low and
every other bit of PORT_A is as before; the display latches exactly the pair (m, n). -/
def Obligations.NibbleTransferIsSevenEvents : Prop :=
  ∀ (s : State) (m : Bool) (n : Nibble), s.DisplayReady →
    let t := xfer s m n
    t.trace = s.trace ++ [ .paClr (0xF <<< s.cfg.dataShift), .paSet (n.toNat <<< s.cfg.dataShift),
        if m then .paSet (1 <<< s.cfg.rsBit) else .paClr (1 <<< s.cfg.rsBit), .paSet (1 <<< s.cfg.enBit),
        .wait s.cfg.tPulse, .paClr (1 <<< s.cfg.enBit), .wait s.cfg.tXferSettle ]
    ∧ (∀ k, t.pa.bit k =
        if s.cfg.dataShift ≤ k ∧ k < s.cfg.dataShift + 4 then n.getLsbD (k - s.cfg.dataShift)
        else if k = s.cfg.rsBit then m else if k = s.cfg.enBit then false else s.pa.bit k)
    ∧ strobes s.cfg s.pa (xferEvents s.cfg m n) = [(m, n)]
    ∧ t = { s with nib := n, pa := t.pa, trace := t.trace }

/-- R101: BYTE(m, b) is the transfer of the upper nibble and then of the lower one, but for the commands 0x30 and 0x20, which
are their upper nibble alone; `rs_mode` records the mode. It depends on no other state. -/
def Obligations.ByteTransferUpperNibbleFirst : Prop :=
  ∀ (s : State) (m : Bool) (b : Byte),
    let t := byteXfer s m b
    t.trace = s.trace ++ (if m = false ∧ (b = 0x30 ∨ b = 0x20) then xferEvents s.cfg m (b.extractLsb' 4 4)
        else xferEvents s.cfg m (b.extractLsb' 4 4) ++ xferEvents s.cfg m (b.extractLsb' 0 4))
    ∧ t.rsMode = m
    ∧ t = { s with rsMode := m, lcdByte := t.lcdByte, lcdMode := t.lcdMode, nib := t.nib, pa := t.pa, trace := t.trace }
    ∧ (s.DisplayReady → strobes s.cfg s.pa (t.trace.drop s.trace.length) =
        if m = false ∧ (b = 0x30 ∨ b = 0x20) then [(m, b.extractLsb' 4 4)]
        else [(m, b.extractLsb' 4 4), (m, b.extractLsb' 0 4)])

/-- R102: the settle after a byte. -/
def Obligations.SettleClasses : Prop :=
  ∀ (c : Config) (b : Byte), settle c true b = c.tDataSettle
    ∧ ((b = 0x01 ∨ b = 0x02 ∨ b = 0x03) → settle c false b = c.tClearSettle)
    ∧ (¬(b = 0x01 ∨ b = 0x02 ∨ b = 0x03) → settle c false b = c.tCmdSettle)

/-- R103: LCD_CMD b completes in every state, for every byte: the transfers of the byte with RS = 0 and the command's settle,
`rs_mode` 0, the answer OK, and nothing else changed; with the lines as R100 assumes, the display latches the byte's nibbles
as a command and the lines are left as the rule says. -/
def Obligations.LcdCmdWritesACommandByte : Prop :=
  ∀ (b : Byte) (s : State), ∃ t, exec (.lcdCmd b) s = .next t
    ∧ t.trace = s.trace ++ byteEvents s.cfg false b
    ∧ t.rsps = s.rsps ++ [0x0000#16] ∧ t.seq = .idle ∧ t.rsMode = false
    ∧ SameSampler s t ∧ SameAlert s t ∧ SameHost s t ∧ SameOracles s t
    ∧ (s.DisplayReady →
        strobes s.cfg s.pa (byteEvents s.cfg false b) =
          (if b = 0x30 ∨ b = 0x20 then [(false, b.extractLsb' 4 4)]
            else [(false, b.extractLsb' 4 4), (false, b.extractLsb' 0 4)])
        ∧ ∀ k, t.pa.bit k = lineAfterByte s.cfg false b (s.pa.bit k) k)

/-- R104: LCD_DATA b completes in every state, for every byte, 0x30 and 0x20 among them: two transfers with RS = 1 and the data
settle, `rs_mode` 1, the answer OK, and nothing else changed. -/
def Obligations.LcdDataWritesACharacter : Prop :=
  ∀ (b : Byte) (s : State), ∃ t, exec (.lcdData b) s = .next t
    ∧ t.trace = s.trace ++ (xferEvents s.cfg true (b.extractLsb' 4 4) ++ xferEvents s.cfg true (b.extractLsb' 0 4)
        ++ [.wait s.cfg.tDataSettle])
    ∧ t.rsps = s.rsps ++ [0x0000#16] ∧ t.seq = .idle ∧ t.rsMode = true
    ∧ SameSampler s t ∧ SameAlert s t ∧ SameHost s t ∧ SameOracles s t
    ∧ (s.DisplayReady →
        strobes s.cfg s.pa (t.trace.drop s.trace.length) = [(true, b.extractLsb' 4 4), (true, b.extractLsb' 0 4)]
        ∧ ∀ k, t.pa.bit k = lineAfterByte s.cfg true b (s.pa.bit k) k)

/-- R105: LCD_INIT completes in every state: the power-up settle, the six bytes of INIT_ROM as commands with their settles,
`rs_mode` 0, the answer OK, and nothing else changed; the display latches the twelve pairs of the rule, and the lines are
left as after the command 0x01. -/
def Obligations.LcdInitRunsTheFixedSequence : Prop :=
  ∀ s : State, ∃ t, exec .lcdInit s = .next t
    ∧ t.trace = s.trace ++ ([.wait s.cfg.tPowerup] ++ byteEvents s.cfg false 0x33 ++ byteEvents s.cfg false 0x32
        ++ byteEvents s.cfg false 0x28 ++ byteEvents s.cfg false 0x0C ++ byteEvents s.cfg false 0x06
        ++ byteEvents s.cfg false 0x01)
    ∧ t.rsps = s.rsps ++ [0x0000#16] ∧ t.seq = .idle ∧ t.rsMode = false
    ∧ SameSampler s t ∧ SameAlert s t ∧ SameHost s t ∧ SameOracles s t
    ∧ (s.DisplayReady →
        strobes s.cfg s.pa (t.trace.drop s.trace.length) =
          [ (false, 0x3), (false, 0x3), (false, 0x3), (false, 0x2), (false, 0x2), (false, 0x8), (false, 0x0), (false, 0xC),
            (false, 0x0), (false, 0x6), (false, 0x0), (false, 0x1) ]
        ∧ ∀ k, t.pa.bit k = lineAfterByte s.cfg false 0x01 (s.pa.bit k) k)

/-- R58, R107: RS and the data lines hold still while EN is high: in the events of every operation and of every display script,
from a state with the lines as R100 assumes, and in those of every step from a state with the invariant. -/
def Obligations.LinesHoldStillUnderTheStrobe : Prop :=
  ∀ s : State,
    (s.DisplayReady →
      (∀ (i : Instr) (t : State), exec i s = .next t →
        stableUnderStrobe s.cfg s.pa (t.trace.drop s.trace.length) = true)
      ∧ ∀ items : List ScriptItem,
        stableUnderStrobe s.cfg s.pa ((runScript s items).trace.drop s.trace.length) = true)
    ∧ (s.Inv → ∀ t : State, step s = .next t →
        stableUnderStrobe s.cfg s.pa (t.trace.drop s.trace.length) = true)

/-- R111: a display operation's events depend on its operand and the configuration, "not on what came before". -/
def Obligations.DisplayEventsIgnoreThePast : Prop :=
  ∀ (i : Instr) (s s' : State), (i = .lcdInit ∨ (∃ b, i = .lcdCmd b) ∨ (∃ b, i = .lcdData b)) → s.cfg = s'.cfg →
    ∃ t t' es, exec i s = .next t ∧ exec i s' = .next t' ∧ t.trace = s.trace ++ es ∧ t'.trace = s'.trace ++ es

/-- R109, R114: how many transfers and how many events each display operation issues, and how many transfers a display script:
LCD_CMD one and 8 for the commands 0x30 and 0x20, two and 15 for any other; LCD_DATA two and 15; LCD_INIT twelve and 91; a
script of k items, s of which are `cmd 0x30` or `cmd 0x20`, 2k - s transfers. A transfer is a strobe of the events issued.
(That the strobes are counted from a state with EN high too, where the first data lines move under EN and R58 defines no strobe
trace, is the model's own: log entry 19.) -/
def Obligations.TransferAndEventCounts : Prop :=
  ∀ s : State, s.cfg.wf = true → s.pa.width = s.cfg.portW →
    (∀ b, ∃ t, exec (.lcdCmd b) s = .next t
      ∧ (strobes s.cfg s.pa (t.trace.drop s.trace.length)).length = (if b = 0x30 ∨ b = 0x20 then 1 else 2)
      ∧ t.trace.length = s.trace.length + (if b = 0x30 ∨ b = 0x20 then 8 else 15))
    ∧ (∀ b, ∃ t, exec (.lcdData b) s = .next t
      ∧ (strobes s.cfg s.pa (t.trace.drop s.trace.length)).length = 2
      ∧ t.trace.length = s.trace.length + 15)
    ∧ (∃ t, exec .lcdInit s = .next t
      ∧ (strobes s.cfg s.pa (t.trace.drop s.trace.length)).length = 12
      ∧ t.trace.length = s.trace.length + 91)
    ∧ ∀ items : List ScriptItem,
        (strobes s.cfg s.pa ((runScript s items).trace.drop s.trace.length)).length =
          2 * items.length - items.countP (fun i => i == .cmd 0x30 || i == .cmd 0x20)

/-- R60, R110: the two nibbles of a byte are its quotient and remainder by 16, and make up the byte again. -/
def Obligations.NibblesMakeUpTheByte : Prop :=
  ∀ b : Byte, (highNibble b).toNat = b.toNat / 16 ∧ (lowNibble b).toNat = b.toNat % 16 ∧ highNibble b ++ lowNibble b = b

/-! ### Analog Sampler -/

/-- R125: ADC_CFG completes in every state: with an empty set or one that names an unsupported channel it answers
ConfigurationError and changes nothing; otherwise it powers the converter, adds the set to the routed channels, stores the
divisor, and answers OK. -/
def Obligations.AdcCfgPowersAndRoutes : Prop :=
  ∀ (chset div : Byte) (s : State),
    ((chset = 0 ∨ ∃ c : Nat, c < 8 ∧ chset.getLsbD c = true ∧ s.cfg.supportedCh.getLsbD c = false) →
      exec (.adcCfg chset div) s = .next { s with rsps := s.rsps ++ [0x2000#16], seq := .idle })
    ∧ (¬(chset = 0 ∨ ∃ c : Nat, c < 8 ∧ chset.getLsbD c = true ∧ s.cfg.supportedCh.getLsbD c = false) →
      ∃ pb', exec (.adcCfg chset div) s = .next { s with
          pdn := true, pb := pb', clkdiv := div, rsps := s.rsps ++ [0x0000#16], seq := .idle
          trace := s.trace ++ [.pbSet (chset.toNat <<< s.cfg.routeShift)] }
        ∧ (s.cfg.wf = true → s.pb.width = s.cfg.portW →
            (∀ c, c < 8 → pb'.bit (s.cfg.routeShift + c) = (s.pb.bit (s.cfg.routeShift + c) || chset.getLsbD c))
            ∧ ∀ k, blockBitB s.cfg k = false → pb'.bit k = s.pb.bit k))

/-- R126, R127, R134, R135: ADC_READ of a ready channel whose conversion the converter completes before the limit: the sample
is the answer, SEL is the channel's one-hot value, START is 0, DONE is 1, nothing is in flight, no event is issued, and
nothing else of the block changes. (The converter's answer as data is the model's own: log entry 4.) -/
def Obligations.AdcReadReturnsTheSample : Prop :=
  ∀ (ch : Byte) (s : State) (d : Nat), s.ChannelReady ch → s.nextAnswer.delay = some d →
    (∀ n, s.cfg.pollLimit = some n → d < n) →
    ∃ t, exec (.adcRead ch) s = .next t
      ∧ t.rsps = s.rsps ++ [0x0#4 ++ s.nextAnswer.sample] ∧ t.seq = .idle
      ∧ t.sel = 1#8 <<< ch.toNat ∧ t.start = false ∧ t.done = true ∧ t.result = s.nextAnswer.sample ∧ t.conv = none
      ∧ t.trace = s.trace ∧ t.pb = s.pb ∧ t.clkdiv = s.clkdiv ∧ t.pdn = s.pdn
      ∧ SameDisplay s t ∧ SameAlert s t ∧ SameHost s t ∧ t.pins = s.pins ∧ t.answers = s.answers.drop 1

/-- R126, R171: ADC_READ of a ready channel whose conversion has not completed when the last poll that POLL_LIMIT allows is
made: SamplerTimeout, with START and DONE 0, RESULT as before, nothing in flight. (The converter's answer as data is the model's
own: log entry 4.) -/
def Obligations.AdcReadTimesOut : Prop :=
  ∀ (ch : Byte) (s : State) (n : Nat), s.cfg.wf = true → s.ChannelReady ch → s.cfg.pollLimit = some n →
    (∀ d, s.nextAnswer.delay = some d → n ≤ d) →
    ∃ t, exec (.adcRead ch) s = .next t
      ∧ t.rsps = s.rsps ++ [0x1000#16] ∧ t.seq = .idle
      ∧ t.sel = 1#8 <<< ch.toNat ∧ t.start = false ∧ t.done = false ∧ t.result = s.result ∧ t.conv = none
      ∧ t.trace = s.trace ∧ t.pb = s.pb ∧ t.clkdiv = s.clkdiv ∧ t.pdn = s.pdn
      ∧ SameDisplay s t ∧ SameAlert s t ∧ SameHost s t ∧ t.pins = s.pins ∧ t.answers = s.answers.drop 1

/-- R126, R145, R172: ADC_READ of a channel that is 8 or more, unsupported or not routed answers ConfigurationError, and nothing
else changes. -/
def Obligations.AdcReadRejectsABadChannel : Prop :=
  ∀ (ch : Byte) (s : State),
    (8 ≤ ch.toNat ∨ s.cfg.supportedCh.getLsbD ch.toNat = false ∨ s.pb.bit (s.cfg.routeShift + ch.toNat) = false) →
      exec (.adcRead ch) s = .next { s with rsps := s.rsps ++ [0x2000#16], seq := .idle }

/-- R174: with POLL_LIMIT infinite and a converter that never completes, ADC_READ polls for ever: after any number of further
steps the block is still at the poll, with DONE 0, and no response has been returned. (That a converter that never completes is
the datum `delay = none`, and one step for each further poll, are the model's own: log entries 4 and 8.) -/
def Obligations.UnboundedPollHangs : Prop :=
  ∀ (ch : Byte) (s : State), s.cfg.wf = true → s.ChannelReady ch → s.cfg.pollLimit = none → s.nextAnswer.delay = none →
    ∃ t, exec (.adcRead ch) s = .next t ∧ t.sel = 1#8 <<< ch.toNat ∧ t.start = true ∧ t.trace = s.trace
      ∧ ∀ k, ∃ u, Host.Core.run Sys2Proof.core k t = .next u
        ∧ u.seq = .polling (k + 1) ∧ u.rsps = s.rsps ∧ u.done = false ∧ u.program = s.program ∧ u.result = s.result

/-- R171, R174: with a finite POLL_LIMIT every ADC_READ that starts ends, with one response. (That one step runs the whole
operation, so that the end is within its own step, is the model's own: log entry 8.) -/
def Obligations.FiniteLimitAlwaysAnswers : Prop :=
  ∀ (ch : Byte) (s t : State) (n : Nat), s.cfg.wf = true → s.cfg.pollLimit = some n → exec (.adcRead ch) s = .next t →
    t.seq = .idle ∧ ∃ r, t.rsps = s.rsps ++ [r]

/-- R136: "no state leaks between calls": what SEL, START, DONE and RESULT held before makes no difference to the response of an
ADC_READ nor to what it leaves in SEL, START and DONE, nor to a RESULT that it completes. (With the same answer of the
converter, which the model holds as data: log entry 4.) -/
def Obligations.AdcReadIgnoresStaleRegisters : Prop :=
  ∀ (ch : Byte) (s : State) (sel : Byte) (start done : Bool) (result : Sample), s.ChannelReady ch →
    ∃ t t', exec (.adcRead ch) s = .next t
      ∧ exec (.adcRead ch) { s with sel := sel, start := start, done := done, result := result } = .next t'
      ∧ t'.rsps = t.rsps ∧ t'.seq = t.seq ∧ t'.sel = t.sel ∧ t'.start = t.start ∧ t'.done = t.done ∧ t'.conv = t.conv
      ∧ (t.done = true → t'.result = t.result) ∧ (t.done = false → t.result = s.result ∧ t'.result = result)

/-- R137: the trigger: with SEL the one-hot value of a channel and PDN = 1 it sets START, clears DONE and puts that channel's
conversion in flight, all else of the block unchanged. R141: with SEL not one-hot it is a fault. (R137 only says that a model
gives the trigger with PDN = 0 no meaning: that this too is a fault, and that SEL is looked at first, are the model's own, log
entry 13. That the trigger takes the converter's next answer is the model's own, log entry 4.) -/
def Obligations.TriggerStartsOneConversion : Prop :=
  ∀ s : State,
    (∀ c : Channel, s.sel = 1#8 <<< c.val → s.pdn = true →
      ∃ t, s.trigger = .next t ∧ t.start = true ∧ t.done = false ∧ t.conv = some c ∧ t.answer = s.nextAnswer
        ∧ t.sel = s.sel ∧ t.clkdiv = s.clkdiv ∧ t.pdn = s.pdn ∧ t.result = s.result ∧ t.pb = s.pb ∧ t.trace = s.trace
        ∧ t.rsps = s.rsps ∧ t.seq = s.seq ∧ SameDisplay s t ∧ SameAlert s t ∧ SameLatches s t ∧ SameHost s t)
    ∧ (∀ c : Channel, s.sel = 1#8 <<< c.val → s.pdn = false → s.trigger = .fault .triggerUnpowered)
    ∧ ((∀ c : Channel, s.sel ≠ 1#8 <<< c.val) → s.trigger = .fault .triggerNotOneHot)

/-- R140: RESULT changes in a completion only: an operation that leaves another RESULT is an ADC_READ, and it leaves DONE = 1;
and START <- 0 abandons the conversion in flight. -/
def Obligations.ResultChangesOnlyAtACompletion : Prop :=
  (∀ (i : Instr) (s t : State), exec i s = .next t → t.result ≠ s.result → (∃ ch, i = .adcRead ch) ∧ t.done = true)
  ∧ ∀ s : State, s.stopConversion = { s with start := false, conv := none }

/-- R125, R191: only ADC_CFG writes PDN, CLKDIV and the routing bits, and PDN and a routing bit, once 1, stay 1. -/
def Obligations.OnlyAdcCfgPowersAndRoutes : Prop :=
  ∀ (i : Instr) (s t : State), exec i s = .next t →
    ((∀ chset div, i ≠ .adcCfg chset div) → t.pdn = s.pdn ∧ t.clkdiv = s.clkdiv ∧ t.pb = s.pb)
    ∧ (s.pdn = true → t.pdn = true) ∧ (∀ c, s.isRouted c = true → t.isRouted c = true)

/-- R142: the voltage of a sample is s * 11 / 13650 exactly; the source's fixtures; it grows with the sample and lies in
[0, 3.3]. -/
def Obligations.VoltageScaling : Prop :=
  (∀ s : Sample, volt s = (s.toNat : Rat) * 11 / 13650 ∧ 0 ≤ volt s ∧ volt s ≤ 33 / 10)
  ∧ (∀ a b : Sample, a.toNat < b.toNat → volt a < volt b)
  ∧ volt 0 = 0 ∧ volt 4095 = 33 / 10 ∧ volt 2048 = 22528 / 13650

/-! ### Alert Machine -/

/-- R152, R156, R157, R164: one true observation in Quiescent: Alert, counter 0, the alert script and then the buzzer on,
response Alert with `transitioned`. -/
def Obligations.TrueObservationArms : Prop :=
  ∀ s : State, s.alertState = .quiescent → ∃ t, exec (.alertObs true) s = .next t
    ∧ t.alertState = .alert ∧ t.persistCnt = 0
    ∧ t.trace = s.trace ++ (scriptEvents s.cfg s.cfg.msgAlert ++ [.paSet (1 <<< s.cfg.buzzBit)])
    ∧ t.pa = (scriptEvents s.cfg s.cfg.msgAlert ++ [Event.paSet (1 <<< s.cfg.buzzBit)]).foldl latchAfter s.pa
    ∧ t.rsps = s.rsps ++ [0x0003#16] ∧ t.seq = .idle ∧ t.rsMode = scriptMode s.cfg.msgAlert s.rsMode
    ∧ (s.cfg.wf = true → s.pa.width = s.cfg.portW → t.pa.bit s.cfg.buzzBit = true)
    ∧ SameSampler s t ∧ SameHost s t ∧ SameOracles s t

/-- R153: the two observations that leave the machine in Alert: a true one sets the counter to 0; a false one below the
threshold counts. No hook runs, no event is issued, and nothing else changes. -/
def Obligations.ObservationsThatStayInAlert : Prop :=
  ∀ s : State, s.alertState = .alert →
    exec (.alertObs true) s = .next { s with persistCnt := 0, rsps := s.rsps ++ [0x0001#16], seq := .idle }
    ∧ ((s.persistCnt + 1).toNat < s.cfg.threshold →
        exec (.alertObs false) s =
          .next { s with persistCnt := s.persistCnt + 1, rsps := s.rsps ++ [0x0001#16], seq := .idle })

/-- R154, R156, R157, R164: a false observation that brings the counter to the threshold: Quiescent, counter 0, the clear script
and then the buzzer off, response Quiescent with `transitioned`. -/
def Obligations.PersistentFalseObservationDisarms : Prop :=
  ∀ s : State, s.alertState = .alert → s.cfg.threshold ≤ (s.persistCnt + 1).toNat →
    ∃ t, exec (.alertObs false) s = .next t
      ∧ t.alertState = .quiescent ∧ t.persistCnt = 0
      ∧ t.trace = s.trace ++ (scriptEvents s.cfg s.cfg.msgClear ++ [.paClr (1 <<< s.cfg.buzzBit)])
      ∧ t.pa = (scriptEvents s.cfg s.cfg.msgClear ++ [Event.paClr (1 <<< s.cfg.buzzBit)]).foldl latchAfter s.pa
      ∧ t.rsps = s.rsps ++ [0x0002#16] ∧ t.seq = .idle ∧ t.rsMode = scriptMode s.cfg.msgClear s.rsMode
      ∧ t.pa.bit s.cfg.buzzBit = false
      ∧ SameSampler s t ∧ SameHost s t ∧ SameOracles s t

/-- R155: a false observation in Quiescent "changes nothing: no state is written, no hook runs, no event is issued". -/
def Obligations.FalseObservationInQuiescentChangesNothing : Prop :=
  ∀ s : State, s.alertState = .quiescent →
    exec (.alertObs false) s = .next { s with rsps := s.rsps ++ [0x0000#16], seq := .idle }

/-- R158: ALERT_ACK in Alert: Quiescent at once, whatever the counter, the acknowledge script and then the buzzer off; in
Quiescent it does nothing. -/
def Obligations.AcknowledgementDisarmsAtOnce : Prop :=
  ∀ s : State,
    (s.alertState = .alert → ∃ t, exec .alertAck s = .next t
      ∧ t.alertState = .quiescent ∧ t.persistCnt = 0
      ∧ t.trace = s.trace ++ (scriptEvents s.cfg s.cfg.msgAck ++ [.paClr (1 <<< s.cfg.buzzBit)])
      ∧ t.pa = (scriptEvents s.cfg s.cfg.msgAck ++ [Event.paClr (1 <<< s.cfg.buzzBit)]).foldl latchAfter s.pa
      ∧ t.rsps = s.rsps ++ [0x0002#16] ∧ t.seq = .idle ∧ t.rsMode = scriptMode s.cfg.msgAck s.rsMode
      ∧ t.pa.bit s.cfg.buzzBit = false
      ∧ SameSampler s t ∧ SameHost s t ∧ SameOracles s t)
    ∧ (s.alertState = .quiescent →
        exec .alertAck s = .next { s with rsps := s.rsps ++ [0x0000#16], seq := .idle })

/-- R156, R157: what a hook's script does to PORT_A: its strobes are those of its items, sent as requests would be, and no
line but the data lines, RS and EN changes. `rs_mode` is the mode of the last item (an empty script changes nothing), and nothing
else of the block changes but the operand latches (R21). -/
def Obligations.ScriptsAreSentLikeRequests : Prop :=
  ∀ (s : State) (items : List ScriptItem), s.DisplayReady →
    let t := runScript s items
    t.trace = s.trace ++ scriptEvents s.cfg items
    ∧ strobes s.cfg s.pa (scriptEvents s.cfg items) = scriptStrobes items
    ∧ t.pa.bit s.cfg.enBit = false ∧ t.pa.bit s.cfg.rsBit = scriptMode items (s.pa.bit s.cfg.rsBit)
    ∧ t.pa = (scriptEvents s.cfg items).foldl latchAfter s.pa
    ∧ (∀ k, ¬(s.cfg.dataShift ≤ k ∧ k < s.cfg.dataShift + 4) → k ≠ s.cfg.rsBit → k ≠ s.cfg.enBit → t.pa.bit k = s.pa.bit k)
    ∧ t.pa.bit s.cfg.buzzBit = s.pa.bit s.cfg.buzzBit ∧ t.rsMode = scriptMode items s.rsMode
    ∧ t.rsps = s.rsps ∧ t.seq = s.seq ∧ SameSampler s t ∧ SameAlert s t ∧ SameHost s t ∧ SameOracles s t
    ∧ (items = [] → t = s)

/-- R163, R154, R156: the hysteresis: in Alert with the counter 0, k consecutive false observations with k below the threshold
leave it in Alert with the counter k and without an event; the one at the threshold, and no earlier one, returns it to
Quiescent, with the clear script and then the buzzer off. -/
def Obligations.HysteresisOfTheAlertMachine : Prop :=
  ∀ s : State, s.cfg.wf = true → s.alertState = .alert → s.persistCnt = 0 →
    (∀ k, k < s.cfg.threshold → ∃ t, runOps (List.replicate k (.alertObs false)) s = .next t
      ∧ t.alertState = .alert ∧ t.persistCnt.toNat = k ∧ t.trace = s.trace ∧ t.pa = s.pa
      ∧ t.rsps = s.rsps ++ List.replicate k 0x0001#16)
    ∧ ∃ t, runOps (List.replicate s.cfg.threshold (.alertObs false)) s = .next t
      ∧ t.alertState = .quiescent ∧ t.persistCnt = 0
      ∧ t.trace = s.trace ++ (scriptEvents s.cfg s.cfg.msgClear ++ [.paClr (1 <<< s.cfg.buzzBit)])
      ∧ t.rsps = s.rsps ++ (List.replicate (s.cfg.threshold - 1) 0x0001#16 ++ [0x0002#16])

/-- R162, R164, R183: an Alert Machine operation always completes with one response, OK, whose bit 0 is the state after it and
whose bit 1 says that the state changed; all other bits are 0. -/
def Obligations.AlertResponsesSayTheStateAndTheTransition : Prop :=
  ∀ (i : Instr) (s : State), ((∃ t, i = .alertObs t) ∨ i = .alertAck) →
    ∃ t r, exec i s = .next t ∧ t.rsps = s.rsps ++ [r] ∧ t.seq = .idle
      ∧ (r.getLsbD 0 = true ↔ t.alertState = .alert)
      ∧ (r.getLsbD 1 = true ↔ t.alertState ≠ s.alertState)
      ∧ (r = 0x0000#16 ∨ r = 0x0001#16 ∨ r = 0x0002#16 ∨ r = 0x0003#16)

/-- R31, R32, R188(2): only ALERT_OBS and ALERT_ACK write the Alert Machine, and only they drive the buzzer. -/
def Obligations.OnlyAlertOperationsDriveTheAlarm : Prop :=
  ∀ (i : Instr) (s t : State), (∀ b, i ≠ .alertObs b) → i ≠ .alertAck → s.cfg.wf = true → exec i s = .next t →
    SameAlert s t ∧ (s.pa.width = s.cfg.portW → t.pa.bit s.cfg.buzzBit = s.pa.bit s.cfg.buzzBit)

/-! ### The host's pseudo-instructions -/

/-- R86, R106: LCD_STR is one LCD_DATA for each byte, in order, none left out, whatever the bytes: its call trace is theirs, and
the answers are OK, one for each; the host's program then goes on behind it. (One step for each byte and one for the end of the
string are the model's own: log entry 7.) -/
def Obligations.StringsAreSentByteByByte : Prop :=
  ∀ (cs : List Byte) (rest : List HostItem) (s : State),
    s.cfg.wf = true → s.seq = .idle → s.program = .lcdStr cs :: rest →
    ∃ t, Host.Core.run Sys2Proof.core (cs.length + 1) s = .next t
      ∧ t.trace = s.trace ++ cs.flatMap (fun b => xferEvents s.cfg true (b.extractLsb' 4 4)
          ++ xferEvents s.cfg true (b.extractLsb' 0 4) ++ [.wait s.cfg.tDataSettle])
      ∧ t.rsps = s.rsps ++ List.replicate cs.length 0x0000#16 ∧ t.program = rest ∧ t.seq = .idle

/-- R87, R158, R159: ALERT_OBS_PIN observes the level of the PIR pin at the instant of its read, and ALERT_ACK_PIN acknowledges
when the ACK pin is high and else does nothing. (The host's items and the levels as data are the model's own: log entries 5
and 7.) -/
def Obligations.PinPseudoInstructionsReadTheirPin : Prop :=
  ∀ (s : State) (rest : List HostItem), s.cfg.wf = true → s.pa.width = s.cfg.portW → s.seq = .idle →
    (s.program = .alertObsPin :: rest →
      step s = exec (.alertObs (s.levels.testBit s.cfg.pirBit)) (({ s with program := rest } : State).paRead (1 <<< s.cfg.pirBit)))
    ∧ (s.program = .alertAckPin :: rest →
      step s = if s.levels.testBit s.cfg.ackBit then exec .alertAck (({ s with program := rest } : State).paRead (1 <<< s.cfg.ackBit))
        else .next (({ s with program := rest } : State).paRead (1 <<< s.cfg.ackBit)))

/-- R87, R160: ALERT_OBS_ADC is the ADC_READ, and then, when its response is OK, the observation of whether the sample is
strictly below TRIG_LEVEL; after any other response nothing is observed. (The two halves as two steps are the model's own: log
entry 7.) -/
def Obligations.SamplePseudoInstructionComparesStrictly : Prop :=
  ∀ (s : State) (c : Byte) (rest : List HostItem), s.cfg.wf = true → s.seq = .idle →
    (s.program = .alertObsAdc c :: rest → step s = exec (.adcRead c) { s with program := .alertObsOfSample :: rest })
    ∧ (∀ rs v, s.program = .alertObsOfSample :: rest → s.rsps = rs ++ [responseWord .ok v] →
        step s = exec (.alertObs (decide (v.toNat < s.cfg.trigLevel))) { s with program := rest })
    ∧ (∀ rs st v, s.program = .alertObsOfSample :: rest → s.rsps = rs ++ [responseWord st v] → st ≠ .ok →
        step s = .next { s with program := rest })

/-! ### Errors and hazards -/

/-- R182: the display operations "return OK whatever is or is not connected to the lines". R183: "ALERT_OBS and ALERT_ACK return OK
for every state and operand", with a defined next state, whatever display script a hook runs. -/
def Obligations.DisplayAndAlertOperationsAnswerOk : Prop :=
  ∀ (i : Instr) (s : State),
    (i = .lcdInit ∨ (∃ b, i = .lcdCmd b) ∨ (∃ b, i = .lcdData b) ∨ (∃ b, i = .alertObs b) ∨ i = .alertAck) →
      ∃ t v, exec i s = .next t ∧ t.rsps = s.rsps ++ [responseWord .ok v]

/-- R207: the bus-width commands 0x30 and 0x20 "must never be split into two nibble transfers": as an LCD_CMD, from every state of
a block with a well-formed configuration, and as an item of a display script, wherever it stands, each is the one strobe of its
upper nibble, with RS = 0, and no second strobe with the low nibble follows.
(That this is said from a state with EN high too, where the first data lines move under EN and R58 defines no strobe trace, is the
model's own: log entry 19.) -/
def Obligations.BusWidthCommandsAreNeverSplit : Prop :=
  ∀ (b : Byte) (s : State), (b = 0x30 ∨ b = 0x20) → s.cfg.wf = true → s.pa.width = s.cfg.portW →
    (∃ t, exec (.lcdCmd b) s = .next t
      ∧ strobes s.cfg s.pa (t.trace.drop s.trace.length) = [(false, b.extractLsb' 4 4)])
    ∧ ∀ before after : List ScriptItem,
        strobes s.cfg s.pa ((runScript s (before ++ .cmd b :: after)).trace.drop s.trace.length) =
          scriptStrobes before ++ (false, b.extractLsb' 4 4) :: scriptStrobes after
end

