-- ==== Sys2Proof/Laws/Config.lean ====
section
/-! SUPPORT. What a well-formed configuration gives (R15), as inequalities that omega reads. -/

namespace Sys2Proof

open Machine (blockBitA)

/-- The data field is `dataShift` to `dataShift + 3`, the single lines lie outside it and apart, and all lie below PORT_W. -/
structure Config.PinFacts (c : Config) : Prop where
  dataFits : c.dataShift + 3 < c.portW
  rsFits : c.rsBit < c.portW
  enFits : c.enBit < c.portW
  buzzFits : c.buzzBit < c.portW
  pirFits : c.pirBit < c.portW
  ackFits : c.ackBit < c.portW
  routesFit : c.routeShift + 7 < c.portW
  rsOutside : c.rsBit < c.dataShift ∨ c.dataShift + 4 ≤ c.rsBit
  enOutside : c.enBit < c.dataShift ∨ c.dataShift + 4 ≤ c.enBit
  buzzOutside : c.buzzBit < c.dataShift ∨ c.dataShift + 4 ≤ c.buzzBit
  rsNeEn : c.rsBit ≠ c.enBit
  rsNeBuzz : c.rsBit ≠ c.buzzBit
  enNeBuzz : c.enBit ≠ c.buzzBit
  pirNotDriven : blockBitA c c.pirBit = false
  ackNotDriven : blockBitA c c.ackBit = false

theorem Config.pinFacts_of_wf {c : Config} (h : c.wf = true) : c.PinFacts := by
  simp only [Config.wf, Bool.and_eq_true] at h
  obtain ⟨⟨⟨⟨⟨⟨⟨hd, hf⟩, hr⟩, -⟩, -⟩, -⟩, -⟩, -⟩ := h
  simp only [Config.pinsDistinct, Config.pinPositions, distinct, List.all_cons, List.all_nil, Bool.and_eq_true, bne_iff_ne,
    ne_eq, and_true] at hd
  simp only [Config.pinsFit, Config.pinPositions, List.all_cons, List.all_nil, Bool.and_eq_true, decide_eq_true_eq] at hf
  simp only [Config.routesFit, decide_eq_true_eq] at hr
  obtain ⟨⟨-, -, -, r0, e0, b0, p0, a0⟩, ⟨-, -, r1, e1, b1, p1, a1⟩, ⟨-, r2, e2, b2, p2, a2⟩, ⟨r3, e3, b3, p3, a3⟩,
    ⟨re, rb, rp, ra⟩, ⟨eb, ep, ea⟩, ⟨bp, ba⟩, -⟩ := hd
  obtain ⟨-, -, -, f3, fr, fe, fb, fp, fa, -⟩ := hf
  exact
    { pirNotDriven := by
        simp only [Machine.blockBitA, Bool.or_eq_false_iff, Bool.and_eq_false_iff, decide_eq_false_iff_not, beq_eq_false_iff_ne]
        refine ⟨⟨⟨?_, Ne.symm rp⟩, Ne.symm ep⟩, Ne.symm bp⟩
        clear re rb eb r0 r1 r2 r3 e0 e1 e2 e3 b0 b1 b2 b3 a0 a1 a2 a3 rp ra ep ea bp ba; omega
      ackNotDriven := by
        simp only [Machine.blockBitA, Bool.or_eq_false_iff, Bool.and_eq_false_iff, decide_eq_false_iff_not, beq_eq_false_iff_ne]
        refine ⟨⟨⟨?_, Ne.symm ra⟩, Ne.symm ea⟩, Ne.symm ba⟩
        clear re rb eb r0 r1 r2 r3 e0 e1 e2 e3 b0 b1 b2 b3 p0 p1 p2 p3 rp ra ep ea bp ba; omega
      dataFits := f3, rsFits := fr, enFits := fe, buzzFits := fb, pirFits := fp, ackFits := fa, routesFit := hr
      rsOutside := by clear re rb eb rp ra ep ea bp ba p0 p1 p2 p3 a0 a1 a2 a3 e0 e1 e2 e3 b0 b1 b2 b3; omega
      enOutside := by clear re rb eb rp ra ep ea bp ba p0 p1 p2 p3 a0 a1 a2 a3 r0 r1 r2 r3 b0 b1 b2 b3; omega
      buzzOutside := by clear re rb eb rp ra ep ea bp ba p0 p1 p2 p3 a0 a1 a2 a3 e0 e1 e2 e3 r0 r1 r2 r3; omega
      rsNeEn := re, rsNeBuzz := rb, enNeBuzz := eb }

theorem Config.threshold_of_wf {c : Config} (h : c.wf = true) : 1 ≤ c.threshold ∧ c.threshold ≤ 65535 := by
  simp only [Config.wf, Bool.and_eq_true] at h
  obtain ⟨⟨⟨-, ht⟩, -⟩, -⟩ := h
  simpa [Config.thresholdInRange] using ht

theorem Config.pollLimit_of_wf {c : Config} (h : c.wf = true) {n : Nat} (hn : c.pollLimit = some n) : 1 ≤ n := by
  simp only [Config.wf, Bool.and_eq_true] at h
  simpa [Config.pollLimitPositive, hn] using h.2

end Sys2Proof
end

