-- ==== Sys2Proof/Laws/Ports.lean ====
section
/-! SUPPORT. The ports bit by bit: what `set` and `clr` do to a bit, what the named masks hold, and that a latch is known by
its bits. -/

namespace Sys2Proof.Machine

@[simp] theorem Port.set_width (p : Port) (m : Nat) : (p.set m).width = p.width := rfl

@[simp] theorem Port.clr_width (p : Port) (m : Nat) : (p.clr m).width = p.width := rfl

theorem Port.bit_of_width_le (p : Port) (k : Nat) (h : p.width ≤ k) : p.bit k = false := by
  simp [Port.bit, BitVec.getLsbD_of_ge _ _ h]

/-- Two latches of one width with the same bits are one latch. -/
theorem Port.ext_bit {p q : Port} (hw : p.width = q.width) (h : ∀ k, p.bit k = q.bit k) : p = q := by
  obtain ⟨w, x⟩ := p
  obtain ⟨w', y⟩ := q
  obtain rfl : w = w' := hw
  congr 1
  exact BitVec.eq_of_getLsbD_eq fun i _ => h i

/-- R51: a bit of the mask is set, every other keeps its value. -/
theorem Port.bit_set (p : Port) (m k : Nat) : (p.set m).bit k = (p.bit k || (decide (k < p.width) && m.testBit k)) := by
  simp [Port.bit, Port.set, BitVec.getLsbD_ofNat]

/-- R52: a bit of the mask is cleared, every other keeps its value. -/
theorem Port.bit_clr (p : Port) (m k : Nat) : (p.clr m).bit k = (p.bit k && !m.testBit k) := by
  by_cases hk : k < p.width
  · simp only [Port.bit, Port.clr, BitVec.getLsbD_and, BitVec.getLsbD_not, BitVec.getLsbD_ofNat, hk, decide_true,
      Bool.true_and]
  · have h : p.width ≤ k := Nat.le_of_not_lt hk
    rw [Port.bit_of_width_le _ _ h, Port.bit_of_width_le (p.clr m) k h]
    rfl

theorem testBit_rsMask (c : Config) (k : Nat) : (rsMask c).testBit k = (k == c.rsBit) := by
  rw [rsMask, Nat.one_shiftLeft, Nat.testBit_two_pow, Bool.eq_iff_iff, decide_eq_true_iff, beq_iff_eq]
  exact eq_comm

theorem testBit_enMask (c : Config) (k : Nat) : (enMask c).testBit k = (k == c.enBit) := by
  rw [enMask, Nat.one_shiftLeft, Nat.testBit_two_pow, Bool.eq_iff_iff, decide_eq_true_iff, beq_iff_eq]
  exact eq_comm

theorem testBit_buzzMask (c : Config) (k : Nat) : (buzzMask c).testBit k = (k == c.buzzBit) := by
  rw [buzzMask, Nat.one_shiftLeft, Nat.testBit_two_pow, Bool.eq_iff_iff, decide_eq_true_iff, beq_iff_eq]
  exact eq_comm

theorem testBit_nibbleMask (c : Config) (n : Nibble) (k : Nat) :
    (nibbleMask c n).testBit k = (decide (c.dataShift ≤ k) && n.getLsbD (k - c.dataShift)) := by
  simp [nibbleMask, Nat.testBit_shiftLeft, BitVec.getLsbD]

theorem testBit_dataMask (c : Config) (k : Nat) :
    (dataMask c).testBit k = (decide (c.dataShift ≤ k) && decide (k < c.dataShift + 4)) := by
  have h : dataMask c = (2 ^ 4 - 1) <<< c.dataShift := rfl
  rw [h, Nat.testBit_shiftLeft, Nat.testBit_two_pow_sub_one, Bool.eq_iff_iff]
  simp
  omega

theorem testBit_routeMask (c : Config) (chset : Byte) (k : Nat) :
    (routeMask c chset).testBit k = (decide (c.routeShift ≤ k) && chset.getLsbD (k - c.routeShift)) := by
  simp [routeMask, Nat.testBit_shiftLeft, BitVec.getLsbD]

/-- A bit of what a read returns (R53): the latch where the block drives the pin, the level elsewhere, 0 outside the mask. -/
theorem testBit_readValue (p : Port) (outputs levels m k : Nat) :
    (p.readValue outputs levels m).testBit k =
      (decide (k < p.width) && (m.testBit k && (if outputs.testBit k then p.bit k else levels.testBit k))) := by
  simp only [Port.readValue, BitVec.testBit_toNat, BitVec.getLsbD_and, BitVec.getLsbD_or, BitVec.getLsbD_not,
    BitVec.getLsbD_ofNat, Port.bit]
  by_cases h : k < p.width
  · cases ho : outputs.testBit k <;> simp [h, Bool.and_comm]
  · simp [h]

end Sys2Proof.Machine
end

