-- ==== Sys2Proof/Laws/State.lean ====
section
/-! SUPPORT. One lemma per field per update of the state: what each named operation leaves in each field. They rewrite a
field of an updated state to a field of the state before, so that no later proof unfolds an update. -/

namespace Sys2Proof.Machine

/-! ### emit -/

@[simp] theorem State.emit_cfg (s : State) (e : Event) : (s.emit e).cfg = s.cfg := rfl
@[simp] theorem State.emit_rsMode (s : State) (e : Event) : (s.emit e).rsMode = s.rsMode := rfl
@[simp] theorem State.emit_pa (s : State) (e : Event) : (s.emit e).pa = s.pa := rfl
@[simp] theorem State.emit_pb (s : State) (e : Event) : (s.emit e).pb = s.pb := rfl
@[simp] theorem State.emit_sel (s : State) (e : Event) : (s.emit e).sel = s.sel := rfl
@[simp] theorem State.emit_clkdiv (s : State) (e : Event) : (s.emit e).clkdiv = s.clkdiv := rfl
@[simp] theorem State.emit_pdn (s : State) (e : Event) : (s.emit e).pdn = s.pdn := rfl
@[simp] theorem State.emit_start (s : State) (e : Event) : (s.emit e).start = s.start := rfl
@[simp] theorem State.emit_result (s : State) (e : Event) : (s.emit e).result = s.result := rfl
@[simp] theorem State.emit_done (s : State) (e : Event) : (s.emit e).done = s.done := rfl
@[simp] theorem State.emit_conv (s : State) (e : Event) : (s.emit e).conv = s.conv := rfl
@[simp] theorem State.emit_alertState (s : State) (e : Event) : (s.emit e).alertState = s.alertState := rfl
@[simp] theorem State.emit_persistCnt (s : State) (e : Event) : (s.emit e).persistCnt = s.persistCnt := rfl
@[simp] theorem State.emit_seq (s : State) (e : Event) : (s.emit e).seq = s.seq := rfl
@[simp] theorem State.emit_lcdByte (s : State) (e : Event) : (s.emit e).lcdByte = s.lcdByte := rfl
@[simp] theorem State.emit_lcdMode (s : State) (e : Event) : (s.emit e).lcdMode = s.lcdMode := rfl
@[simp] theorem State.emit_nib (s : State) (e : Event) : (s.emit e).nib = s.nib := rfl
@[simp] theorem State.emit_ch (s : State) (e : Event) : (s.emit e).ch = s.ch := rfl
@[simp] theorem State.emit_trace (s : State) (e : Event) : (s.emit e).trace = s.trace ++ [e] := rfl
@[simp] theorem State.emit_rsps (s : State) (e : Event) : (s.emit e).rsps = s.rsps := rfl
@[simp] theorem State.emit_program (s : State) (e : Event) : (s.emit e).program = s.program := rfl
@[simp] theorem State.emit_answers (s : State) (e : Event) : (s.emit e).answers = s.answers := rfl
@[simp] theorem State.emit_answer (s : State) (e : Event) : (s.emit e).answer = s.answer := rfl
@[simp] theorem State.emit_pins (s : State) (e : Event) : (s.emit e).pins = s.pins := rfl
@[simp] theorem State.emit_draws (s : State) (e : Event) : (s.emit e).draws = s.draws := rfl

/-! ### wait -/

@[simp] theorem State.wait_cfg (s : State) (d : Nat) : (s.wait d).cfg = s.cfg := rfl
@[simp] theorem State.wait_rsMode (s : State) (d : Nat) : (s.wait d).rsMode = s.rsMode := rfl
@[simp] theorem State.wait_pa (s : State) (d : Nat) : (s.wait d).pa = s.pa := rfl
@[simp] theorem State.wait_pb (s : State) (d : Nat) : (s.wait d).pb = s.pb := rfl
@[simp] theorem State.wait_sel (s : State) (d : Nat) : (s.wait d).sel = s.sel := rfl
@[simp] theorem State.wait_clkdiv (s : State) (d : Nat) : (s.wait d).clkdiv = s.clkdiv := rfl
@[simp] theorem State.wait_pdn (s : State) (d : Nat) : (s.wait d).pdn = s.pdn := rfl
@[simp] theorem State.wait_start (s : State) (d : Nat) : (s.wait d).start = s.start := rfl
@[simp] theorem State.wait_result (s : State) (d : Nat) : (s.wait d).result = s.result := rfl
@[simp] theorem State.wait_done (s : State) (d : Nat) : (s.wait d).done = s.done := rfl
@[simp] theorem State.wait_conv (s : State) (d : Nat) : (s.wait d).conv = s.conv := rfl
@[simp] theorem State.wait_alertState (s : State) (d : Nat) : (s.wait d).alertState = s.alertState := rfl
@[simp] theorem State.wait_persistCnt (s : State) (d : Nat) : (s.wait d).persistCnt = s.persistCnt := rfl
@[simp] theorem State.wait_seq (s : State) (d : Nat) : (s.wait d).seq = s.seq := rfl
@[simp] theorem State.wait_lcdByte (s : State) (d : Nat) : (s.wait d).lcdByte = s.lcdByte := rfl
@[simp] theorem State.wait_lcdMode (s : State) (d : Nat) : (s.wait d).lcdMode = s.lcdMode := rfl
@[simp] theorem State.wait_nib (s : State) (d : Nat) : (s.wait d).nib = s.nib := rfl
@[simp] theorem State.wait_ch (s : State) (d : Nat) : (s.wait d).ch = s.ch := rfl
@[simp] theorem State.wait_trace (s : State) (d : Nat) : (s.wait d).trace = s.trace ++ [.wait d] := rfl
@[simp] theorem State.wait_rsps (s : State) (d : Nat) : (s.wait d).rsps = s.rsps := rfl
@[simp] theorem State.wait_program (s : State) (d : Nat) : (s.wait d).program = s.program := rfl
@[simp] theorem State.wait_answers (s : State) (d : Nat) : (s.wait d).answers = s.answers := rfl
@[simp] theorem State.wait_answer (s : State) (d : Nat) : (s.wait d).answer = s.answer := rfl
@[simp] theorem State.wait_pins (s : State) (d : Nat) : (s.wait d).pins = s.pins := rfl
@[simp] theorem State.wait_draws (s : State) (d : Nat) : (s.wait d).draws = s.draws := rfl

/-! ### paSet -/

@[simp] theorem State.paSet_cfg (s : State) (m : Nat) : (s.paSet m).cfg = s.cfg := rfl
@[simp] theorem State.paSet_rsMode (s : State) (m : Nat) : (s.paSet m).rsMode = s.rsMode := rfl
@[simp] theorem State.paSet_pa (s : State) (m : Nat) : (s.paSet m).pa = s.pa.set m := rfl
@[simp] theorem State.paSet_pb (s : State) (m : Nat) : (s.paSet m).pb = s.pb := rfl
@[simp] theorem State.paSet_sel (s : State) (m : Nat) : (s.paSet m).sel = s.sel := rfl
@[simp] theorem State.paSet_clkdiv (s : State) (m : Nat) : (s.paSet m).clkdiv = s.clkdiv := rfl
@[simp] theorem State.paSet_pdn (s : State) (m : Nat) : (s.paSet m).pdn = s.pdn := rfl
@[simp] theorem State.paSet_start (s : State) (m : Nat) : (s.paSet m).start = s.start := rfl
@[simp] theorem State.paSet_result (s : State) (m : Nat) : (s.paSet m).result = s.result := rfl
@[simp] theorem State.paSet_done (s : State) (m : Nat) : (s.paSet m).done = s.done := rfl
@[simp] theorem State.paSet_conv (s : State) (m : Nat) : (s.paSet m).conv = s.conv := rfl
@[simp] theorem State.paSet_alertState (s : State) (m : Nat) : (s.paSet m).alertState = s.alertState := rfl
@[simp] theorem State.paSet_persistCnt (s : State) (m : Nat) : (s.paSet m).persistCnt = s.persistCnt := rfl
@[simp] theorem State.paSet_seq (s : State) (m : Nat) : (s.paSet m).seq = s.seq := rfl
@[simp] theorem State.paSet_lcdByte (s : State) (m : Nat) : (s.paSet m).lcdByte = s.lcdByte := rfl
@[simp] theorem State.paSet_lcdMode (s : State) (m : Nat) : (s.paSet m).lcdMode = s.lcdMode := rfl
@[simp] theorem State.paSet_nib (s : State) (m : Nat) : (s.paSet m).nib = s.nib := rfl
@[simp] theorem State.paSet_ch (s : State) (m : Nat) : (s.paSet m).ch = s.ch := rfl
@[simp] theorem State.paSet_trace (s : State) (m : Nat) : (s.paSet m).trace = s.trace ++ [.paSet m] := rfl
@[simp] theorem State.paSet_rsps (s : State) (m : Nat) : (s.paSet m).rsps = s.rsps := rfl
@[simp] theorem State.paSet_program (s : State) (m : Nat) : (s.paSet m).program = s.program := rfl
@[simp] theorem State.paSet_answers (s : State) (m : Nat) : (s.paSet m).answers = s.answers := rfl
@[simp] theorem State.paSet_answer (s : State) (m : Nat) : (s.paSet m).answer = s.answer := rfl
@[simp] theorem State.paSet_pins (s : State) (m : Nat) : (s.paSet m).pins = s.pins := rfl
@[simp] theorem State.paSet_draws (s : State) (m : Nat) : (s.paSet m).draws = s.draws := rfl

/-! ### paClr -/

@[simp] theorem State.paClr_cfg (s : State) (m : Nat) : (s.paClr m).cfg = s.cfg := rfl
@[simp] theorem State.paClr_rsMode (s : State) (m : Nat) : (s.paClr m).rsMode = s.rsMode := rfl
@[simp] theorem State.paClr_pa (s : State) (m : Nat) : (s.paClr m).pa = s.pa.clr m := rfl
@[simp] theorem State.paClr_pb (s : State) (m : Nat) : (s.paClr m).pb = s.pb := rfl
@[simp] theorem State.paClr_sel (s : State) (m : Nat) : (s.paClr m).sel = s.sel := rfl
@[simp] theorem State.paClr_clkdiv (s : State) (m : Nat) : (s.paClr m).clkdiv = s.clkdiv := rfl
@[simp] theorem State.paClr_pdn (s : State) (m : Nat) : (s.paClr m).pdn = s.pdn := rfl
@[simp] theorem State.paClr_start (s : State) (m : Nat) : (s.paClr m).start = s.start := rfl
@[simp] theorem State.paClr_result (s : State) (m : Nat) : (s.paClr m).result = s.result := rfl
@[simp] theorem State.paClr_done (s : State) (m : Nat) : (s.paClr m).done = s.done := rfl
@[simp] theorem State.paClr_conv (s : State) (m : Nat) : (s.paClr m).conv = s.conv := rfl
@[simp] theorem State.paClr_alertState (s : State) (m : Nat) : (s.paClr m).alertState = s.alertState := rfl
@[simp] theorem State.paClr_persistCnt (s : State) (m : Nat) : (s.paClr m).persistCnt = s.persistCnt := rfl
@[simp] theorem State.paClr_seq (s : State) (m : Nat) : (s.paClr m).seq = s.seq := rfl
@[simp] theorem State.paClr_lcdByte (s : State) (m : Nat) : (s.paClr m).lcdByte = s.lcdByte := rfl
@[simp] theorem State.paClr_lcdMode (s : State) (m : Nat) : (s.paClr m).lcdMode = s.lcdMode := rfl
@[simp] theorem State.paClr_nib (s : State) (m : Nat) : (s.paClr m).nib = s.nib := rfl
@[simp] theorem State.paClr_ch (s : State) (m : Nat) : (s.paClr m).ch = s.ch := rfl
@[simp] theorem State.paClr_trace (s : State) (m : Nat) : (s.paClr m).trace = s.trace ++ [.paClr m] := rfl
@[simp] theorem State.paClr_rsps (s : State) (m : Nat) : (s.paClr m).rsps = s.rsps := rfl
@[simp] theorem State.paClr_program (s : State) (m : Nat) : (s.paClr m).program = s.program := rfl
@[simp] theorem State.paClr_answers (s : State) (m : Nat) : (s.paClr m).answers = s.answers := rfl
@[simp] theorem State.paClr_answer (s : State) (m : Nat) : (s.paClr m).answer = s.answer := rfl
@[simp] theorem State.paClr_pins (s : State) (m : Nat) : (s.paClr m).pins = s.pins := rfl
@[simp] theorem State.paClr_draws (s : State) (m : Nat) : (s.paClr m).draws = s.draws := rfl

/-! ### pbSet -/

@[simp] theorem State.pbSet_cfg (s : State) (m : Nat) : (s.pbSet m).cfg = s.cfg := rfl
@[simp] theorem State.pbSet_rsMode (s : State) (m : Nat) : (s.pbSet m).rsMode = s.rsMode := rfl
@[simp] theorem State.pbSet_pa (s : State) (m : Nat) : (s.pbSet m).pa = s.pa := rfl
@[simp] theorem State.pbSet_pb (s : State) (m : Nat) : (s.pbSet m).pb = s.pb.set m := rfl
@[simp] theorem State.pbSet_sel (s : State) (m : Nat) : (s.pbSet m).sel = s.sel := rfl
@[simp] theorem State.pbSet_clkdiv (s : State) (m : Nat) : (s.pbSet m).clkdiv = s.clkdiv := rfl
@[simp] theorem State.pbSet_pdn (s : State) (m : Nat) : (s.pbSet m).pdn = s.pdn := rfl
@[simp] theorem State.pbSet_start (s : State) (m : Nat) : (s.pbSet m).start = s.start := rfl
@[simp] theorem State.pbSet_result (s : State) (m : Nat) : (s.pbSet m).result = s.result := rfl
@[simp] theorem State.pbSet_done (s : State) (m : Nat) : (s.pbSet m).done = s.done := rfl
@[simp] theorem State.pbSet_conv (s : State) (m : Nat) : (s.pbSet m).conv = s.conv := rfl
@[simp] theorem State.pbSet_alertState (s : State) (m : Nat) : (s.pbSet m).alertState = s.alertState := rfl
@[simp] theorem State.pbSet_persistCnt (s : State) (m : Nat) : (s.pbSet m).persistCnt = s.persistCnt := rfl
@[simp] theorem State.pbSet_seq (s : State) (m : Nat) : (s.pbSet m).seq = s.seq := rfl
@[simp] theorem State.pbSet_lcdByte (s : State) (m : Nat) : (s.pbSet m).lcdByte = s.lcdByte := rfl
@[simp] theorem State.pbSet_lcdMode (s : State) (m : Nat) : (s.pbSet m).lcdMode = s.lcdMode := rfl
@[simp] theorem State.pbSet_nib (s : State) (m : Nat) : (s.pbSet m).nib = s.nib := rfl
@[simp] theorem State.pbSet_ch (s : State) (m : Nat) : (s.pbSet m).ch = s.ch := rfl
@[simp] theorem State.pbSet_trace (s : State) (m : Nat) : (s.pbSet m).trace = s.trace ++ [.pbSet m] := rfl
@[simp] theorem State.pbSet_rsps (s : State) (m : Nat) : (s.pbSet m).rsps = s.rsps := rfl
@[simp] theorem State.pbSet_program (s : State) (m : Nat) : (s.pbSet m).program = s.program := rfl
@[simp] theorem State.pbSet_answers (s : State) (m : Nat) : (s.pbSet m).answers = s.answers := rfl
@[simp] theorem State.pbSet_answer (s : State) (m : Nat) : (s.pbSet m).answer = s.answer := rfl
@[simp] theorem State.pbSet_pins (s : State) (m : Nat) : (s.pbSet m).pins = s.pins := rfl
@[simp] theorem State.pbSet_draws (s : State) (m : Nat) : (s.pbSet m).draws = s.draws := rfl

/-! ### pbClr -/

@[simp] theorem State.pbClr_cfg (s : State) (m : Nat) : (s.pbClr m).cfg = s.cfg := rfl
@[simp] theorem State.pbClr_rsMode (s : State) (m : Nat) : (s.pbClr m).rsMode = s.rsMode := rfl
@[simp] theorem State.pbClr_pa (s : State) (m : Nat) : (s.pbClr m).pa = s.pa := rfl
@[simp] theorem State.pbClr_pb (s : State) (m : Nat) : (s.pbClr m).pb = s.pb.clr m := rfl
@[simp] theorem State.pbClr_sel (s : State) (m : Nat) : (s.pbClr m).sel = s.sel := rfl
@[simp] theorem State.pbClr_clkdiv (s : State) (m : Nat) : (s.pbClr m).clkdiv = s.clkdiv := rfl
@[simp] theorem State.pbClr_pdn (s : State) (m : Nat) : (s.pbClr m).pdn = s.pdn := rfl
@[simp] theorem State.pbClr_start (s : State) (m : Nat) : (s.pbClr m).start = s.start := rfl
@[simp] theorem State.pbClr_result (s : State) (m : Nat) : (s.pbClr m).result = s.result := rfl
@[simp] theorem State.pbClr_done (s : State) (m : Nat) : (s.pbClr m).done = s.done := rfl
@[simp] theorem State.pbClr_conv (s : State) (m : Nat) : (s.pbClr m).conv = s.conv := rfl
@[simp] theorem State.pbClr_alertState (s : State) (m : Nat) : (s.pbClr m).alertState = s.alertState := rfl
@[simp] theorem State.pbClr_persistCnt (s : State) (m : Nat) : (s.pbClr m).persistCnt = s.persistCnt := rfl
@[simp] theorem State.pbClr_seq (s : State) (m : Nat) : (s.pbClr m).seq = s.seq := rfl
@[simp] theorem State.pbClr_lcdByte (s : State) (m : Nat) : (s.pbClr m).lcdByte = s.lcdByte := rfl
@[simp] theorem State.pbClr_lcdMode (s : State) (m : Nat) : (s.pbClr m).lcdMode = s.lcdMode := rfl
@[simp] theorem State.pbClr_nib (s : State) (m : Nat) : (s.pbClr m).nib = s.nib := rfl
@[simp] theorem State.pbClr_ch (s : State) (m : Nat) : (s.pbClr m).ch = s.ch := rfl
@[simp] theorem State.pbClr_trace (s : State) (m : Nat) : (s.pbClr m).trace = s.trace ++ [.pbClr m] := rfl
@[simp] theorem State.pbClr_rsps (s : State) (m : Nat) : (s.pbClr m).rsps = s.rsps := rfl
@[simp] theorem State.pbClr_program (s : State) (m : Nat) : (s.pbClr m).program = s.program := rfl
@[simp] theorem State.pbClr_answers (s : State) (m : Nat) : (s.pbClr m).answers = s.answers := rfl
@[simp] theorem State.pbClr_answer (s : State) (m : Nat) : (s.pbClr m).answer = s.answer := rfl
@[simp] theorem State.pbClr_pins (s : State) (m : Nat) : (s.pbClr m).pins = s.pins := rfl
@[simp] theorem State.pbClr_draws (s : State) (m : Nat) : (s.pbClr m).draws = s.draws := rfl

/-! ### dropLevels -/

@[simp] theorem State.dropLevels_cfg (s : State) : (s.dropLevels).cfg = s.cfg := by unfold State.dropLevels; split <;> rfl
@[simp] theorem State.dropLevels_rsMode (s : State) : (s.dropLevels).rsMode = s.rsMode := by unfold State.dropLevels; split <;> rfl
@[simp] theorem State.dropLevels_pa (s : State) : (s.dropLevels).pa = s.pa := by unfold State.dropLevels; split <;> rfl
@[simp] theorem State.dropLevels_pb (s : State) : (s.dropLevels).pb = s.pb := by unfold State.dropLevels; split <;> rfl
@[simp] theorem State.dropLevels_sel (s : State) : (s.dropLevels).sel = s.sel := by unfold State.dropLevels; split <;> rfl
@[simp] theorem State.dropLevels_clkdiv (s : State) : (s.dropLevels).clkdiv = s.clkdiv := by unfold State.dropLevels; split <;> rfl
@[simp] theorem State.dropLevels_pdn (s : State) : (s.dropLevels).pdn = s.pdn := by unfold State.dropLevels; split <;> rfl
@[simp] theorem State.dropLevels_start (s : State) : (s.dropLevels).start = s.start := by unfold State.dropLevels; split <;> rfl
@[simp] theorem State.dropLevels_result (s : State) : (s.dropLevels).result = s.result := by unfold State.dropLevels; split <;> rfl
@[simp] theorem State.dropLevels_done (s : State) : (s.dropLevels).done = s.done := by unfold State.dropLevels; split <;> rfl
@[simp] theorem State.dropLevels_conv (s : State) : (s.dropLevels).conv = s.conv := by unfold State.dropLevels; split <;> rfl
@[simp] theorem State.dropLevels_alertState (s : State) : (s.dropLevels).alertState = s.alertState := by unfold State.dropLevels; split <;> rfl
@[simp] theorem State.dropLevels_persistCnt (s : State) : (s.dropLevels).persistCnt = s.persistCnt := by unfold State.dropLevels; split <;> rfl
@[simp] theorem State.dropLevels_seq (s : State) : (s.dropLevels).seq = s.seq := by unfold State.dropLevels; split <;> rfl
@[simp] theorem State.dropLevels_lcdByte (s : State) : (s.dropLevels).lcdByte = s.lcdByte := by unfold State.dropLevels; split <;> rfl
@[simp] theorem State.dropLevels_lcdMode (s : State) : (s.dropLevels).lcdMode = s.lcdMode := by unfold State.dropLevels; split <;> rfl
@[simp] theorem State.dropLevels_nib (s : State) : (s.dropLevels).nib = s.nib := by unfold State.dropLevels; split <;> rfl
@[simp] theorem State.dropLevels_ch (s : State) : (s.dropLevels).ch = s.ch := by unfold State.dropLevels; split <;> rfl
@[simp] theorem State.dropLevels_trace (s : State) : (s.dropLevels).trace = s.trace := by unfold State.dropLevels; split <;> rfl
@[simp] theorem State.dropLevels_rsps (s : State) : (s.dropLevels).rsps = s.rsps := by unfold State.dropLevels; split <;> rfl
@[simp] theorem State.dropLevels_program (s : State) : (s.dropLevels).program = s.program := by unfold State.dropLevels; split <;> rfl
@[simp] theorem State.dropLevels_answers (s : State) : (s.dropLevels).answers = s.answers := by unfold State.dropLevels; split <;> rfl
@[simp] theorem State.dropLevels_answer (s : State) : (s.dropLevels).answer = s.answer := by unfold State.dropLevels; split <;> rfl

/-! ### paRead -/

@[simp] theorem State.paRead_cfg (s : State) (m : Nat) : (s.paRead m).cfg = s.cfg := by unfold State.paRead; simp
@[simp] theorem State.paRead_rsMode (s : State) (m : Nat) : (s.paRead m).rsMode = s.rsMode := by unfold State.paRead; simp
@[simp] theorem State.paRead_pa (s : State) (m : Nat) : (s.paRead m).pa = s.pa := by unfold State.paRead; simp
@[simp] theorem State.paRead_pb (s : State) (m : Nat) : (s.paRead m).pb = s.pb := by unfold State.paRead; simp
@[simp] theorem State.paRead_sel (s : State) (m : Nat) : (s.paRead m).sel = s.sel := by unfold State.paRead; simp
@[simp] theorem State.paRead_clkdiv (s : State) (m : Nat) : (s.paRead m).clkdiv = s.clkdiv := by unfold State.paRead; simp
@[simp] theorem State.paRead_pdn (s : State) (m : Nat) : (s.paRead m).pdn = s.pdn := by unfold State.paRead; simp
@[simp] theorem State.paRead_start (s : State) (m : Nat) : (s.paRead m).start = s.start := by unfold State.paRead; simp
@[simp] theorem State.paRead_result (s : State) (m : Nat) : (s.paRead m).result = s.result := by unfold State.paRead; simp
@[simp] theorem State.paRead_done (s : State) (m : Nat) : (s.paRead m).done = s.done := by unfold State.paRead; simp
@[simp] theorem State.paRead_conv (s : State) (m : Nat) : (s.paRead m).conv = s.conv := by unfold State.paRead; simp
@[simp] theorem State.paRead_alertState (s : State) (m : Nat) : (s.paRead m).alertState = s.alertState := by unfold State.paRead; simp
@[simp] theorem State.paRead_persistCnt (s : State) (m : Nat) : (s.paRead m).persistCnt = s.persistCnt := by unfold State.paRead; simp
@[simp] theorem State.paRead_seq (s : State) (m : Nat) : (s.paRead m).seq = s.seq := by unfold State.paRead; simp
@[simp] theorem State.paRead_lcdByte (s : State) (m : Nat) : (s.paRead m).lcdByte = s.lcdByte := by unfold State.paRead; simp
@[simp] theorem State.paRead_lcdMode (s : State) (m : Nat) : (s.paRead m).lcdMode = s.lcdMode := by unfold State.paRead; simp
@[simp] theorem State.paRead_nib (s : State) (m : Nat) : (s.paRead m).nib = s.nib := by unfold State.paRead; simp
@[simp] theorem State.paRead_ch (s : State) (m : Nat) : (s.paRead m).ch = s.ch := by unfold State.paRead; simp
@[simp] theorem State.paRead_trace (s : State) (m : Nat) : (s.paRead m).trace = s.trace ++ [.paRead m (s.paReadValue m)] := by unfold State.paRead; simp
@[simp] theorem State.paRead_rsps (s : State) (m : Nat) : (s.paRead m).rsps = s.rsps := by unfold State.paRead; simp
@[simp] theorem State.paRead_program (s : State) (m : Nat) : (s.paRead m).program = s.program := by unfold State.paRead; simp
@[simp] theorem State.paRead_answers (s : State) (m : Nat) : (s.paRead m).answers = s.answers := by unfold State.paRead; simp
@[simp] theorem State.paRead_answer (s : State) (m : Nat) : (s.paRead m).answer = s.answer := by unfold State.paRead; simp

/-! ### writeSel -/

@[simp] theorem State.writeSel_cfg (s : State) (v : Byte) : (s.writeSel v).cfg = s.cfg := rfl
@[simp] theorem State.writeSel_rsMode (s : State) (v : Byte) : (s.writeSel v).rsMode = s.rsMode := rfl
@[simp] theorem State.writeSel_pa (s : State) (v : Byte) : (s.writeSel v).pa = s.pa := rfl
@[simp] theorem State.writeSel_pb (s : State) (v : Byte) : (s.writeSel v).pb = s.pb := rfl
@[simp] theorem State.writeSel_sel (s : State) (v : Byte) : (s.writeSel v).sel = v := rfl
@[simp] theorem State.writeSel_clkdiv (s : State) (v : Byte) : (s.writeSel v).clkdiv = s.clkdiv := rfl
@[simp] theorem State.writeSel_pdn (s : State) (v : Byte) : (s.writeSel v).pdn = s.pdn := rfl
@[simp] theorem State.writeSel_start (s : State) (v : Byte) : (s.writeSel v).start = s.start := rfl
@[simp] theorem State.writeSel_result (s : State) (v : Byte) : (s.writeSel v).result = s.result := rfl
@[simp] theorem State.writeSel_done (s : State) (v : Byte) : (s.writeSel v).done = s.done := rfl
@[simp] theorem State.writeSel_conv (s : State) (v : Byte) : (s.writeSel v).conv = s.conv := rfl
@[simp] theorem State.writeSel_alertState (s : State) (v : Byte) : (s.writeSel v).alertState = s.alertState := rfl
@[simp] theorem State.writeSel_persistCnt (s : State) (v : Byte) : (s.writeSel v).persistCnt = s.persistCnt := rfl
@[simp] theorem State.writeSel_seq (s : State) (v : Byte) : (s.writeSel v).seq = s.seq := rfl
@[simp] theorem State.writeSel_lcdByte (s : State) (v : Byte) : (s.writeSel v).lcdByte = s.lcdByte := rfl
@[simp] theorem State.writeSel_lcdMode (s : State) (v : Byte) : (s.writeSel v).lcdMode = s.lcdMode := rfl
@[simp] theorem State.writeSel_nib (s : State) (v : Byte) : (s.writeSel v).nib = s.nib := rfl
@[simp] theorem State.writeSel_ch (s : State) (v : Byte) : (s.writeSel v).ch = s.ch := rfl
@[simp] theorem State.writeSel_trace (s : State) (v : Byte) : (s.writeSel v).trace = s.trace := rfl
@[simp] theorem State.writeSel_rsps (s : State) (v : Byte) : (s.writeSel v).rsps = s.rsps := rfl
@[simp] theorem State.writeSel_program (s : State) (v : Byte) : (s.writeSel v).program = s.program := rfl
@[simp] theorem State.writeSel_answers (s : State) (v : Byte) : (s.writeSel v).answers = s.answers := rfl
@[simp] theorem State.writeSel_answer (s : State) (v : Byte) : (s.writeSel v).answer = s.answer := rfl
@[simp] theorem State.writeSel_pins (s : State) (v : Byte) : (s.writeSel v).pins = s.pins := rfl
@[simp] theorem State.writeSel_draws (s : State) (v : Byte) : (s.writeSel v).draws = s.draws := rfl

/-! ### writeClkdiv -/

@[simp] theorem State.writeClkdiv_cfg (s : State) (v : Byte) : (s.writeClkdiv v).cfg = s.cfg := rfl
@[simp] theorem State.writeClkdiv_rsMode (s : State) (v : Byte) : (s.writeClkdiv v).rsMode = s.rsMode := rfl
@[simp] theorem State.writeClkdiv_pa (s : State) (v : Byte) : (s.writeClkdiv v).pa = s.pa := rfl
@[simp] theorem State.writeClkdiv_pb (s : State) (v : Byte) : (s.writeClkdiv v).pb = s.pb := rfl
@[simp] theorem State.writeClkdiv_sel (s : State) (v : Byte) : (s.writeClkdiv v).sel = s.sel := rfl
@[simp] theorem State.writeClkdiv_clkdiv (s : State) (v : Byte) : (s.writeClkdiv v).clkdiv = v := rfl
@[simp] theorem State.writeClkdiv_pdn (s : State) (v : Byte) : (s.writeClkdiv v).pdn = s.pdn := rfl
@[simp] theorem State.writeClkdiv_start (s : State) (v : Byte) : (s.writeClkdiv v).start = s.start := rfl
@[simp] theorem State.writeClkdiv_result (s : State) (v : Byte) : (s.writeClkdiv v).result = s.result := rfl
@[simp] theorem State.writeClkdiv_done (s : State) (v : Byte) : (s.writeClkdiv v).done = s.done := rfl
@[simp] theorem State.writeClkdiv_conv (s : State) (v : Byte) : (s.writeClkdiv v).conv = s.conv := rfl
@[simp] theorem State.writeClkdiv_alertState (s : State) (v : Byte) : (s.writeClkdiv v).alertState = s.alertState := rfl
@[simp] theorem State.writeClkdiv_persistCnt (s : State) (v : Byte) : (s.writeClkdiv v).persistCnt = s.persistCnt := rfl
@[simp] theorem State.writeClkdiv_seq (s : State) (v : Byte) : (s.writeClkdiv v).seq = s.seq := rfl
@[simp] theorem State.writeClkdiv_lcdByte (s : State) (v : Byte) : (s.writeClkdiv v).lcdByte = s.lcdByte := rfl
@[simp] theorem State.writeClkdiv_lcdMode (s : State) (v : Byte) : (s.writeClkdiv v).lcdMode = s.lcdMode := rfl
@[simp] theorem State.writeClkdiv_nib (s : State) (v : Byte) : (s.writeClkdiv v).nib = s.nib := rfl
@[simp] theorem State.writeClkdiv_ch (s : State) (v : Byte) : (s.writeClkdiv v).ch = s.ch := rfl
@[simp] theorem State.writeClkdiv_trace (s : State) (v : Byte) : (s.writeClkdiv v).trace = s.trace := rfl
@[simp] theorem State.writeClkdiv_rsps (s : State) (v : Byte) : (s.writeClkdiv v).rsps = s.rsps := rfl
@[simp] theorem State.writeClkdiv_program (s : State) (v : Byte) : (s.writeClkdiv v).program = s.program := rfl
@[simp] theorem State.writeClkdiv_answers (s : State) (v : Byte) : (s.writeClkdiv v).answers = s.answers := rfl
@[simp] theorem State.writeClkdiv_answer (s : State) (v : Byte) : (s.writeClkdiv v).answer = s.answer := rfl
@[simp] theorem State.writeClkdiv_pins (s : State) (v : Byte) : (s.writeClkdiv v).pins = s.pins := rfl
@[simp] theorem State.writeClkdiv_draws (s : State) (v : Byte) : (s.writeClkdiv v).draws = s.draws := rfl

/-! ### powerOn -/

@[simp] theorem State.powerOn_cfg (s : State) : (s.powerOn).cfg = s.cfg := rfl
@[simp] theorem State.powerOn_rsMode (s : State) : (s.powerOn).rsMode = s.rsMode := rfl
@[simp] theorem State.powerOn_pa (s : State) : (s.powerOn).pa = s.pa := rfl
@[simp] theorem State.powerOn_pb (s : State) : (s.powerOn).pb = s.pb := rfl
@[simp] theorem State.powerOn_sel (s : State) : (s.powerOn).sel = s.sel := rfl
@[simp] theorem State.powerOn_clkdiv (s : State) : (s.powerOn).clkdiv = s.clkdiv := rfl
@[simp] theorem State.powerOn_pdn (s : State) : (s.powerOn).pdn = true := rfl
@[simp] theorem State.powerOn_start (s : State) : (s.powerOn).start = s.start := rfl
@[simp] theorem State.powerOn_result (s : State) : (s.powerOn).result = s.result := rfl
@[simp] theorem State.powerOn_done (s : State) : (s.powerOn).done = s.done := rfl
@[simp] theorem State.powerOn_conv (s : State) : (s.powerOn).conv = s.conv := rfl
@[simp] theorem State.powerOn_alertState (s : State) : (s.powerOn).alertState = s.alertState := rfl
@[simp] theorem State.powerOn_persistCnt (s : State) : (s.powerOn).persistCnt = s.persistCnt := rfl
@[simp] theorem State.powerOn_seq (s : State) : (s.powerOn).seq = s.seq := rfl
@[simp] theorem State.powerOn_lcdByte (s : State) : (s.powerOn).lcdByte = s.lcdByte := rfl
@[simp] theorem State.powerOn_lcdMode (s : State) : (s.powerOn).lcdMode = s.lcdMode := rfl
@[simp] theorem State.powerOn_nib (s : State) : (s.powerOn).nib = s.nib := rfl
@[simp] theorem State.powerOn_ch (s : State) : (s.powerOn).ch = s.ch := rfl
@[simp] theorem State.powerOn_trace (s : State) : (s.powerOn).trace = s.trace := rfl
@[simp] theorem State.powerOn_rsps (s : State) : (s.powerOn).rsps = s.rsps := rfl
@[simp] theorem State.powerOn_program (s : State) : (s.powerOn).program = s.program := rfl
@[simp] theorem State.powerOn_answers (s : State) : (s.powerOn).answers = s.answers := rfl
@[simp] theorem State.powerOn_answer (s : State) : (s.powerOn).answer = s.answer := rfl
@[simp] theorem State.powerOn_pins (s : State) : (s.powerOn).pins = s.pins := rfl
@[simp] theorem State.powerOn_draws (s : State) : (s.powerOn).draws = s.draws := rfl

/-! ### takeAnswer -/

@[simp] theorem State.takeAnswer_cfg (s : State) : (s.takeAnswer).cfg = s.cfg := by unfold State.takeAnswer; split <;> rfl
@[simp] theorem State.takeAnswer_rsMode (s : State) : (s.takeAnswer).rsMode = s.rsMode := by unfold State.takeAnswer; split <;> rfl
@[simp] theorem State.takeAnswer_pa (s : State) : (s.takeAnswer).pa = s.pa := by unfold State.takeAnswer; split <;> rfl
@[simp] theorem State.takeAnswer_pb (s : State) : (s.takeAnswer).pb = s.pb := by unfold State.takeAnswer; split <;> rfl
@[simp] theorem State.takeAnswer_sel (s : State) : (s.takeAnswer).sel = s.sel := by unfold State.takeAnswer; split <;> rfl
@[simp] theorem State.takeAnswer_clkdiv (s : State) : (s.takeAnswer).clkdiv = s.clkdiv := by unfold State.takeAnswer; split <;> rfl
@[simp] theorem State.takeAnswer_pdn (s : State) : (s.takeAnswer).pdn = s.pdn := by unfold State.takeAnswer; split <;> rfl
@[simp] theorem State.takeAnswer_start (s : State) : (s.takeAnswer).start = s.start := by unfold State.takeAnswer; split <;> rfl
@[simp] theorem State.takeAnswer_result (s : State) : (s.takeAnswer).result = s.result := by unfold State.takeAnswer; split <;> rfl
@[simp] theorem State.takeAnswer_done (s : State) : (s.takeAnswer).done = s.done := by unfold State.takeAnswer; split <;> rfl
@[simp] theorem State.takeAnswer_conv (s : State) : (s.takeAnswer).conv = s.conv := by unfold State.takeAnswer; split <;> rfl
@[simp] theorem State.takeAnswer_alertState (s : State) : (s.takeAnswer).alertState = s.alertState := by unfold State.takeAnswer; split <;> rfl
@[simp] theorem State.takeAnswer_persistCnt (s : State) : (s.takeAnswer).persistCnt = s.persistCnt := by unfold State.takeAnswer; split <;> rfl
@[simp] theorem State.takeAnswer_seq (s : State) : (s.takeAnswer).seq = s.seq := by unfold State.takeAnswer; split <;> rfl
@[simp] theorem State.takeAnswer_lcdByte (s : State) : (s.takeAnswer).lcdByte = s.lcdByte := by unfold State.takeAnswer; split <;> rfl
@[simp] theorem State.takeAnswer_lcdMode (s : State) : (s.takeAnswer).lcdMode = s.lcdMode := by unfold State.takeAnswer; split <;> rfl
@[simp] theorem State.takeAnswer_nib (s : State) : (s.takeAnswer).nib = s.nib := by unfold State.takeAnswer; split <;> rfl
@[simp] theorem State.takeAnswer_ch (s : State) : (s.takeAnswer).ch = s.ch := by unfold State.takeAnswer; split <;> rfl
@[simp] theorem State.takeAnswer_trace (s : State) : (s.takeAnswer).trace = s.trace := by unfold State.takeAnswer; split <;> rfl
@[simp] theorem State.takeAnswer_rsps (s : State) : (s.takeAnswer).rsps = s.rsps := by unfold State.takeAnswer; split <;> rfl
@[simp] theorem State.takeAnswer_program (s : State) : (s.takeAnswer).program = s.program := by unfold State.takeAnswer; split <;> rfl
@[simp] theorem State.takeAnswer_answer (s : State) : (s.takeAnswer).answer = s.nextAnswer := by unfold State.takeAnswer State.nextAnswer; split <;> rfl
@[simp] theorem State.takeAnswer_pins (s : State) : (s.takeAnswer).pins = s.pins := by unfold State.takeAnswer; split <;> rfl

/-! ### stopConversion -/

@[simp] theorem State.stopConversion_cfg (s : State) : (s.stopConversion).cfg = s.cfg := rfl
@[simp] theorem State.stopConversion_rsMode (s : State) : (s.stopConversion).rsMode = s.rsMode := rfl
@[simp] theorem State.stopConversion_pa (s : State) : (s.stopConversion).pa = s.pa := rfl
@[simp] theorem State.stopConversion_pb (s : State) : (s.stopConversion).pb = s.pb := rfl
@[simp] theorem State.stopConversion_sel (s : State) : (s.stopConversion).sel = s.sel := rfl
@[simp] theorem State.stopConversion_clkdiv (s : State) : (s.stopConversion).clkdiv = s.clkdiv := rfl
@[simp] theorem State.stopConversion_pdn (s : State) : (s.stopConversion).pdn = s.pdn := rfl
@[simp] theorem State.stopConversion_start (s : State) : (s.stopConversion).start = false := rfl
@[simp] theorem State.stopConversion_result (s : State) : (s.stopConversion).result = s.result := rfl
@[simp] theorem State.stopConversion_done (s : State) : (s.stopConversion).done = s.done := rfl
@[simp] theorem State.stopConversion_conv (s : State) : (s.stopConversion).conv = none := rfl
@[simp] theorem State.stopConversion_alertState (s : State) : (s.stopConversion).alertState = s.alertState := rfl
@[simp] theorem State.stopConversion_persistCnt (s : State) : (s.stopConversion).persistCnt = s.persistCnt := rfl
@[simp] theorem State.stopConversion_seq (s : State) : (s.stopConversion).seq = s.seq := rfl
@[simp] theorem State.stopConversion_lcdByte (s : State) : (s.stopConversion).lcdByte = s.lcdByte := rfl
@[simp] theorem State.stopConversion_lcdMode (s : State) : (s.stopConversion).lcdMode = s.lcdMode := rfl
@[simp] theorem State.stopConversion_nib (s : State) : (s.stopConversion).nib = s.nib := rfl
@[simp] theorem State.stopConversion_ch (s : State) : (s.stopConversion).ch = s.ch := rfl
@[simp] theorem State.stopConversion_trace (s : State) : (s.stopConversion).trace = s.trace := rfl
@[simp] theorem State.stopConversion_rsps (s : State) : (s.stopConversion).rsps = s.rsps := rfl
@[simp] theorem State.stopConversion_program (s : State) : (s.stopConversion).program = s.program := rfl
@[simp] theorem State.stopConversion_answers (s : State) : (s.stopConversion).answers = s.answers := rfl
@[simp] theorem State.stopConversion_answer (s : State) : (s.stopConversion).answer = s.answer := rfl
@[simp] theorem State.stopConversion_pins (s : State) : (s.stopConversion).pins = s.pins := rfl
@[simp] theorem State.stopConversion_draws (s : State) : (s.stopConversion).draws = s.draws := rfl

/-! ### complete -/

@[simp] theorem State.complete_cfg (s : State) : (s.complete).cfg = s.cfg := rfl
@[simp] theorem State.complete_rsMode (s : State) : (s.complete).rsMode = s.rsMode := rfl
@[simp] theorem State.complete_pa (s : State) : (s.complete).pa = s.pa := rfl
@[simp] theorem State.complete_pb (s : State) : (s.complete).pb = s.pb := rfl
@[simp] theorem State.complete_sel (s : State) : (s.complete).sel = s.sel := rfl
@[simp] theorem State.complete_clkdiv (s : State) : (s.complete).clkdiv = s.clkdiv := rfl
@[simp] theorem State.complete_pdn (s : State) : (s.complete).pdn = s.pdn := rfl
@[simp] theorem State.complete_start (s : State) : (s.complete).start = (s.start && !s.answer.selfClear) := rfl
@[simp] theorem State.complete_result (s : State) : (s.complete).result = s.answer.sample := rfl
@[simp] theorem State.complete_done (s : State) : (s.complete).done = true := rfl
@[simp] theorem State.complete_conv (s : State) : (s.complete).conv = none := rfl
@[simp] theorem State.complete_alertState (s : State) : (s.complete).alertState = s.alertState := rfl
@[simp] theorem State.complete_persistCnt (s : State) : (s.complete).persistCnt = s.persistCnt := rfl
@[simp] theorem State.complete_seq (s : State) : (s.complete).seq = s.seq := rfl
@[simp] theorem State.complete_lcdByte (s : State) : (s.complete).lcdByte = s.lcdByte := rfl
@[simp] theorem State.complete_lcdMode (s : State) : (s.complete).lcdMode = s.lcdMode := rfl
@[simp] theorem State.complete_nib (s : State) : (s.complete).nib = s.nib := rfl
@[simp] theorem State.complete_ch (s : State) : (s.complete).ch = s.ch := rfl
@[simp] theorem State.complete_trace (s : State) : (s.complete).trace = s.trace := rfl
@[simp] theorem State.complete_rsps (s : State) : (s.complete).rsps = s.rsps := rfl
@[simp] theorem State.complete_program (s : State) : (s.complete).program = s.program := rfl
@[simp] theorem State.complete_answers (s : State) : (s.complete).answers = s.answers := rfl
@[simp] theorem State.complete_answer (s : State) : (s.complete).answer = s.answer := rfl
@[simp] theorem State.complete_pins (s : State) : (s.complete).pins = s.pins := rfl
@[simp] theorem State.complete_draws (s : State) : (s.complete).draws = s.draws := rfl

/-! ### converterTurn -/

@[simp] theorem State.converterTurn_cfg (s : State) : (s.converterTurn).cfg = s.cfg := by unfold State.converterTurn; split <;> rfl
@[simp] theorem State.converterTurn_rsMode (s : State) : (s.converterTurn).rsMode = s.rsMode := by unfold State.converterTurn; split <;> rfl
@[simp] theorem State.converterTurn_pa (s : State) : (s.converterTurn).pa = s.pa := by unfold State.converterTurn; split <;> rfl
@[simp] theorem State.converterTurn_pb (s : State) : (s.converterTurn).pb = s.pb := by unfold State.converterTurn; split <;> rfl
@[simp] theorem State.converterTurn_sel (s : State) : (s.converterTurn).sel = s.sel := by unfold State.converterTurn; split <;> rfl
@[simp] theorem State.converterTurn_clkdiv (s : State) : (s.converterTurn).clkdiv = s.clkdiv := by unfold State.converterTurn; split <;> rfl
@[simp] theorem State.converterTurn_pdn (s : State) : (s.converterTurn).pdn = s.pdn := by unfold State.converterTurn; split <;> rfl
@[simp] theorem State.converterTurn_alertState (s : State) : (s.converterTurn).alertState = s.alertState := by unfold State.converterTurn; split <;> rfl
@[simp] theorem State.converterTurn_persistCnt (s : State) : (s.converterTurn).persistCnt = s.persistCnt := by unfold State.converterTurn; split <;> rfl
@[simp] theorem State.converterTurn_seq (s : State) : (s.converterTurn).seq = s.seq := by unfold State.converterTurn; split <;> rfl
@[simp] theorem State.converterTurn_lcdByte (s : State) : (s.converterTurn).lcdByte = s.lcdByte := by unfold State.converterTurn; split <;> rfl
@[simp] theorem State.converterTurn_lcdMode (s : State) : (s.converterTurn).lcdMode = s.lcdMode := by unfold State.converterTurn; split <;> rfl
@[simp] theorem State.converterTurn_nib (s : State) : (s.converterTurn).nib = s.nib := by unfold State.converterTurn; split <;> rfl
@[simp] theorem State.converterTurn_ch (s : State) : (s.converterTurn).ch = s.ch := by unfold State.converterTurn; split <;> rfl
@[simp] theorem State.converterTurn_trace (s : State) : (s.converterTurn).trace = s.trace := by unfold State.converterTurn; split <;> rfl
@[simp] theorem State.converterTurn_rsps (s : State) : (s.converterTurn).rsps = s.rsps := by unfold State.converterTurn; split <;> rfl
@[simp] theorem State.converterTurn_program (s : State) : (s.converterTurn).program = s.program := by unfold State.converterTurn; split <;> rfl
@[simp] theorem State.converterTurn_answers (s : State) : (s.converterTurn).answers = s.answers := by unfold State.converterTurn; split <;> rfl
@[simp] theorem State.converterTurn_pins (s : State) : (s.converterTurn).pins = s.pins := by unfold State.converterTurn; split <;> rfl
@[simp] theorem State.converterTurn_draws (s : State) : (s.converterTurn).draws = s.draws := by unfold State.converterTurn; split <;> rfl

/-! ### retireLatches -/

@[simp] theorem State.retireLatches_cfg (s : State) : (s.retireLatches).cfg = s.cfg := rfl
@[simp] theorem State.retireLatches_rsMode (s : State) : (s.retireLatches).rsMode = s.rsMode := rfl
@[simp] theorem State.retireLatches_pa (s : State) : (s.retireLatches).pa = s.pa := rfl
@[simp] theorem State.retireLatches_pb (s : State) : (s.retireLatches).pb = s.pb := rfl
@[simp] theorem State.retireLatches_sel (s : State) : (s.retireLatches).sel = s.sel := rfl
@[simp] theorem State.retireLatches_clkdiv (s : State) : (s.retireLatches).clkdiv = s.clkdiv := rfl
@[simp] theorem State.retireLatches_pdn (s : State) : (s.retireLatches).pdn = s.pdn := rfl
@[simp] theorem State.retireLatches_start (s : State) : (s.retireLatches).start = s.start := rfl
@[simp] theorem State.retireLatches_result (s : State) : (s.retireLatches).result = s.result := rfl
@[simp] theorem State.retireLatches_done (s : State) : (s.retireLatches).done = s.done := rfl
@[simp] theorem State.retireLatches_conv (s : State) : (s.retireLatches).conv = s.conv := rfl
@[simp] theorem State.retireLatches_alertState (s : State) : (s.retireLatches).alertState = s.alertState := rfl
@[simp] theorem State.retireLatches_persistCnt (s : State) : (s.retireLatches).persistCnt = s.persistCnt := rfl
@[simp] theorem State.retireLatches_seq (s : State) : (s.retireLatches).seq = s.seq := rfl
@[simp] theorem State.retireLatches_lcdByte (s : State) : (s.retireLatches).lcdByte = Config.freeByte s.draws := rfl
@[simp] theorem State.retireLatches_lcdMode (s : State) : (s.retireLatches).lcdMode = Config.freeMode s.draws := rfl
@[simp] theorem State.retireLatches_nib (s : State) : (s.retireLatches).nib = Config.freeNib s.draws := rfl
@[simp] theorem State.retireLatches_ch (s : State) : (s.retireLatches).ch = Config.freeCh s.draws := rfl
@[simp] theorem State.retireLatches_trace (s : State) : (s.retireLatches).trace = s.trace := rfl
@[simp] theorem State.retireLatches_rsps (s : State) : (s.retireLatches).rsps = s.rsps := rfl
@[simp] theorem State.retireLatches_program (s : State) : (s.retireLatches).program = s.program := rfl
@[simp] theorem State.retireLatches_answers (s : State) : (s.retireLatches).answers = s.answers := rfl
@[simp] theorem State.retireLatches_answer (s : State) : (s.retireLatches).answer = s.answer := rfl
@[simp] theorem State.retireLatches_pins (s : State) : (s.retireLatches).pins = s.pins := rfl
@[simp] theorem State.retireLatches_draws (s : State) : (s.retireLatches).draws = s.draws + 1 := rfl

/-! ### respond -/

@[simp] theorem State.respond_cfg (s : State) (st : Status) (v : BitVec 12) : (s.respond st v).cfg = s.cfg := rfl
@[simp] theorem State.respond_rsMode (s : State) (st : Status) (v : BitVec 12) : (s.respond st v).rsMode = s.rsMode := rfl
@[simp] theorem State.respond_pa (s : State) (st : Status) (v : BitVec 12) : (s.respond st v).pa = s.pa := rfl
@[simp] theorem State.respond_pb (s : State) (st : Status) (v : BitVec 12) : (s.respond st v).pb = s.pb := rfl
@[simp] theorem State.respond_sel (s : State) (st : Status) (v : BitVec 12) : (s.respond st v).sel = s.sel := rfl
@[simp] theorem State.respond_clkdiv (s : State) (st : Status) (v : BitVec 12) : (s.respond st v).clkdiv = s.clkdiv := rfl
@[simp] theorem State.respond_pdn (s : State) (st : Status) (v : BitVec 12) : (s.respond st v).pdn = s.pdn := rfl
@[simp] theorem State.respond_start (s : State) (st : Status) (v : BitVec 12) : (s.respond st v).start = s.start := rfl
@[simp] theorem State.respond_result (s : State) (st : Status) (v : BitVec 12) : (s.respond st v).result = s.result := rfl
@[simp] theorem State.respond_done (s : State) (st : Status) (v : BitVec 12) : (s.respond st v).done = s.done := rfl
@[simp] theorem State.respond_conv (s : State) (st : Status) (v : BitVec 12) : (s.respond st v).conv = s.conv := rfl
@[simp] theorem State.respond_alertState (s : State) (st : Status) (v : BitVec 12) : (s.respond st v).alertState = s.alertState := rfl
@[simp] theorem State.respond_persistCnt (s : State) (st : Status) (v : BitVec 12) : (s.respond st v).persistCnt = s.persistCnt := rfl
@[simp] theorem State.respond_seq (s : State) (st : Status) (v : BitVec 12) : (s.respond st v).seq = .idle := rfl
@[simp] theorem State.respond_lcdByte (s : State) (st : Status) (v : BitVec 12) : (s.respond st v).lcdByte = s.lcdByte := rfl
@[simp] theorem State.respond_lcdMode (s : State) (st : Status) (v : BitVec 12) : (s.respond st v).lcdMode = s.lcdMode := rfl
@[simp] theorem State.respond_nib (s : State) (st : Status) (v : BitVec 12) : (s.respond st v).nib = s.nib := rfl
@[simp] theorem State.respond_ch (s : State) (st : Status) (v : BitVec 12) : (s.respond st v).ch = s.ch := rfl
@[simp] theorem State.respond_trace (s : State) (st : Status) (v : BitVec 12) : (s.respond st v).trace = s.trace := rfl
@[simp] theorem State.respond_rsps (s : State) (st : Status) (v : BitVec 12) : (s.respond st v).rsps = s.rsps ++ [responseWord st v] := rfl
@[simp] theorem State.respond_program (s : State) (st : Status) (v : BitVec 12) : (s.respond st v).program = s.program := rfl
@[simp] theorem State.respond_answers (s : State) (st : Status) (v : BitVec 12) : (s.respond st v).answers = s.answers := rfl
@[simp] theorem State.respond_answer (s : State) (st : Status) (v : BitVec 12) : (s.respond st v).answer = s.answer := rfl
@[simp] theorem State.respond_pins (s : State) (st : Status) (v : BitVec 12) : (s.respond st v).pins = s.pins := rfl
@[simp] theorem State.respond_draws (s : State) (st : Status) (v : BitVec 12) : (s.respond st v).draws = s.draws := rfl

/-! ### raise -/

@[simp] theorem State.raise_cfg (s : State) (e : Status) : (s.raise e).cfg = s.cfg := rfl
@[simp] theorem State.raise_rsMode (s : State) (e : Status) : (s.raise e).rsMode = s.rsMode := rfl
@[simp] theorem State.raise_pa (s : State) (e : Status) : (s.raise e).pa = s.pa := rfl
@[simp] theorem State.raise_pb (s : State) (e : Status) : (s.raise e).pb = s.pb := rfl
@[simp] theorem State.raise_sel (s : State) (e : Status) : (s.raise e).sel = s.sel := rfl
@[simp] theorem State.raise_clkdiv (s : State) (e : Status) : (s.raise e).clkdiv = s.clkdiv := rfl
@[simp] theorem State.raise_pdn (s : State) (e : Status) : (s.raise e).pdn = s.pdn := rfl
@[simp] theorem State.raise_start (s : State) (e : Status) : (s.raise e).start = s.start := rfl
@[simp] theorem State.raise_result (s : State) (e : Status) : (s.raise e).result = s.result := rfl
@[simp] theorem State.raise_done (s : State) (e : Status) : (s.raise e).done = s.done := rfl
@[simp] theorem State.raise_conv (s : State) (e : Status) : (s.raise e).conv = s.conv := rfl
@[simp] theorem State.raise_alertState (s : State) (e : Status) : (s.raise e).alertState = s.alertState := rfl
@[simp] theorem State.raise_persistCnt (s : State) (e : Status) : (s.raise e).persistCnt = s.persistCnt := rfl
@[simp] theorem State.raise_seq (s : State) (e : Status) : (s.raise e).seq = .idle := rfl
@[simp] theorem State.raise_lcdByte (s : State) (e : Status) : (s.raise e).lcdByte = s.lcdByte := rfl
@[simp] theorem State.raise_lcdMode (s : State) (e : Status) : (s.raise e).lcdMode = s.lcdMode := rfl
@[simp] theorem State.raise_nib (s : State) (e : Status) : (s.raise e).nib = s.nib := rfl
@[simp] theorem State.raise_ch (s : State) (e : Status) : (s.raise e).ch = s.ch := rfl
@[simp] theorem State.raise_trace (s : State) (e : Status) : (s.raise e).trace = s.trace := rfl
@[simp] theorem State.raise_rsps (s : State) (e : Status) : (s.raise e).rsps = s.rsps ++ [responseWord e 0] := rfl
@[simp] theorem State.raise_program (s : State) (e : Status) : (s.raise e).program = s.program := rfl
@[simp] theorem State.raise_answers (s : State) (e : Status) : (s.raise e).answers = s.answers := rfl
@[simp] theorem State.raise_answer (s : State) (e : Status) : (s.raise e).answer = s.answer := rfl
@[simp] theorem State.raise_pins (s : State) (e : Status) : (s.raise e).pins = s.pins := rfl
@[simp] theorem State.raise_draws (s : State) (e : Status) : (s.raise e).draws = s.draws := rfl

/-! ### rejectIllegal -/

@[simp] theorem State.rejectIllegal_cfg (s : State) : (s.rejectIllegal).cfg = s.cfg := rfl
@[simp] theorem State.rejectIllegal_rsMode (s : State) : (s.rejectIllegal).rsMode = s.rsMode := rfl
@[simp] theorem State.rejectIllegal_pa (s : State) : (s.rejectIllegal).pa = s.pa := rfl
@[simp] theorem State.rejectIllegal_pb (s : State) : (s.rejectIllegal).pb = s.pb := rfl
@[simp] theorem State.rejectIllegal_sel (s : State) : (s.rejectIllegal).sel = s.sel := rfl
@[simp] theorem State.rejectIllegal_clkdiv (s : State) : (s.rejectIllegal).clkdiv = s.clkdiv := rfl
@[simp] theorem State.rejectIllegal_pdn (s : State) : (s.rejectIllegal).pdn = s.pdn := rfl
@[simp] theorem State.rejectIllegal_start (s : State) : (s.rejectIllegal).start = s.start := rfl
@[simp] theorem State.rejectIllegal_result (s : State) : (s.rejectIllegal).result = s.result := rfl
@[simp] theorem State.rejectIllegal_done (s : State) : (s.rejectIllegal).done = s.done := rfl
@[simp] theorem State.rejectIllegal_conv (s : State) : (s.rejectIllegal).conv = s.conv := rfl
@[simp] theorem State.rejectIllegal_alertState (s : State) : (s.rejectIllegal).alertState = s.alertState := rfl
@[simp] theorem State.rejectIllegal_persistCnt (s : State) : (s.rejectIllegal).persistCnt = s.persistCnt := rfl
@[simp] theorem State.rejectIllegal_seq (s : State) : (s.rejectIllegal).seq = .idle := rfl
@[simp] theorem State.rejectIllegal_lcdByte (s : State) : (s.rejectIllegal).lcdByte = s.lcdByte := rfl
@[simp] theorem State.rejectIllegal_lcdMode (s : State) : (s.rejectIllegal).lcdMode = s.lcdMode := rfl
@[simp] theorem State.rejectIllegal_nib (s : State) : (s.rejectIllegal).nib = s.nib := rfl
@[simp] theorem State.rejectIllegal_ch (s : State) : (s.rejectIllegal).ch = s.ch := rfl
@[simp] theorem State.rejectIllegal_trace (s : State) : (s.rejectIllegal).trace = s.trace := rfl
@[simp] theorem State.rejectIllegal_rsps (s : State) : (s.rejectIllegal).rsps = s.rsps ++ [responseWord .protocolAssertion 0] := rfl
@[simp] theorem State.rejectIllegal_program (s : State) : (s.rejectIllegal).program = s.program := rfl
@[simp] theorem State.rejectIllegal_answers (s : State) : (s.rejectIllegal).answers = s.answers := rfl
@[simp] theorem State.rejectIllegal_answer (s : State) : (s.rejectIllegal).answer = s.answer := rfl
@[simp] theorem State.rejectIllegal_pins (s : State) : (s.rejectIllegal).pins = s.pins := rfl
@[simp] theorem State.rejectIllegal_draws (s : State) : (s.rejectIllegal).draws = s.draws := rfl

/-! ### enterAlertState -/

@[simp] theorem State.enterAlertState_cfg (s : State) (a : AlertState) : (s.enterAlertState a).cfg = s.cfg := rfl
@[simp] theorem State.enterAlertState_rsMode (s : State) (a : AlertState) : (s.enterAlertState a).rsMode = s.rsMode := rfl
@[simp] theorem State.enterAlertState_pa (s : State) (a : AlertState) : (s.enterAlertState a).pa = s.pa := rfl
@[simp] theorem State.enterAlertState_pb (s : State) (a : AlertState) : (s.enterAlertState a).pb = s.pb := rfl
@[simp] theorem State.enterAlertState_sel (s : State) (a : AlertState) : (s.enterAlertState a).sel = s.sel := rfl
@[simp] theorem State.enterAlertState_clkdiv (s : State) (a : AlertState) : (s.enterAlertState a).clkdiv = s.clkdiv := rfl
@[simp] theorem State.enterAlertState_pdn (s : State) (a : AlertState) : (s.enterAlertState a).pdn = s.pdn := rfl
@[simp] theorem State.enterAlertState_start (s : State) (a : AlertState) : (s.enterAlertState a).start = s.start := rfl
@[simp] theorem State.enterAlertState_result (s : State) (a : AlertState) : (s.enterAlertState a).result = s.result := rfl
@[simp] theorem State.enterAlertState_done (s : State) (a : AlertState) : (s.enterAlertState a).done = s.done := rfl
@[simp] theorem State.enterAlertState_conv (s : State) (a : AlertState) : (s.enterAlertState a).conv = s.conv := rfl
@[simp] theorem State.enterAlertState_alertState (s : State) (a : AlertState) : (s.enterAlertState a).alertState = a := rfl
@[simp] theorem State.enterAlertState_persistCnt (s : State) (a : AlertState) : (s.enterAlertState a).persistCnt = 0 := rfl
@[simp] theorem State.enterAlertState_seq (s : State) (a : AlertState) : (s.enterAlertState a).seq = s.seq := rfl
@[simp] theorem State.enterAlertState_lcdByte (s : State) (a : AlertState) : (s.enterAlertState a).lcdByte = s.lcdByte := rfl
@[simp] theorem State.enterAlertState_lcdMode (s : State) (a : AlertState) : (s.enterAlertState a).lcdMode = s.lcdMode := rfl
@[simp] theorem State.enterAlertState_nib (s : State) (a : AlertState) : (s.enterAlertState a).nib = s.nib := rfl
@[simp] theorem State.enterAlertState_ch (s : State) (a : AlertState) : (s.enterAlertState a).ch = s.ch := rfl
@[simp] theorem State.enterAlertState_trace (s : State) (a : AlertState) : (s.enterAlertState a).trace = s.trace := rfl
@[simp] theorem State.enterAlertState_rsps (s : State) (a : AlertState) : (s.enterAlertState a).rsps = s.rsps := rfl
@[simp] theorem State.enterAlertState_program (s : State) (a : AlertState) : (s.enterAlertState a).program = s.program := rfl
@[simp] theorem State.enterAlertState_answers (s : State) (a : AlertState) : (s.enterAlertState a).answers = s.answers := rfl
@[simp] theorem State.enterAlertState_answer (s : State) (a : AlertState) : (s.enterAlertState a).answer = s.answer := rfl
@[simp] theorem State.enterAlertState_pins (s : State) (a : AlertState) : (s.enterAlertState a).pins = s.pins := rfl
@[simp] theorem State.enterAlertState_draws (s : State) (a : AlertState) : (s.enterAlertState a).draws = s.draws := rfl

end Sys2Proof.Machine
end

