-- ==== Sys2Proof/Laws/Display.lean ====
section
/-! SUPPORT. The display operations as one update of the state each: the fields they write, the events they issue, and the
latch as the one those events leave. -/

namespace Sys2Proof.Machine

/-- The PORT_A latch after a list of events. -/
def runLatch (p : Port) (es : List Event) : Port := es.foldl latchAfter p

@[simp] theorem runLatch_nil (p : Port) : runLatch p [] = p := rfl

@[simp] theorem runLatch_cons (p : Port) (e : Event) (es : List Event) :
    runLatch p (e :: es) = runLatch (latchAfter p e) es := rfl

theorem runLatch_append (p : Port) (es fs : List Event) : runLatch p (es ++ fs) = runLatch (runLatch p es) fs :=
  List.foldl_append ..

@[simp] theorem latchAfter_width (p : Port) (e : Event) : (latchAfter p e).width = p.width := by cases e <;> rfl

@[simp] theorem runLatch_width (p : Port) (es : List Event) : (runLatch p es).width = p.width := by
  induction es generalizing p with
  | nil => rfl
  | cons e es ih => simp [ih]

/-- XFER issues the seven events of R100 and leaves the latch that they leave. -/
theorem xfer_eq (s : State) (m : Bool) (n : Nibble) :
    xfer s m n = { s with
      nib := n
      pa := runLatch s.pa (xferEvents s.cfg m n)
      trace := s.trace ++ xferEvents s.cfg m n } := by
  cases m <;> simp [xfer, driveRs, xferEvents, State.paSet, State.paClr, State.wait, State.emit, latchAfter]

/-- What the program text of R101 to R105 does with one byte, in one update. -/
theorem byteAndSettle_eq (s : State) (m : Bool) (b : Byte) :
    byteAndSettle s m b = { s with
      lcdByte := b
      lcdMode := m
      rsMode := m
      nib := lastNibble m b
      pa := runLatch s.pa (byteEvents s.cfg m b)
      trace := s.trace ++ byteEvents s.cfg m b } := by
  have hw : settle s.cfg m b = byteWait s.cfg m b := by
    simp [settle, byteWait, inClearClass, or_assoc]
  have hs : (singleNibble m b = true) ↔ (m = false ∧ (b = 0x30 ∨ b = 0x20)) := by
    simp [singleNibble]
  by_cases h : m = false ∧ (b = 0x30 ∨ b = 0x20)
  · simp only [byteAndSettle, byteXfer, hs.2 h, xfer_eq, State.wait, State.emit, hw, byteEvents, byteNibbles, lastNibble,
      if_pos h, if_true, highNibble, runLatch_append, latchAfter, List.flatMap_cons, List.flatMap_nil, List.append_nil,
      List.append_assoc, runLatch_cons, runLatch_nil]
  · have hf : singleNibble m b = false := by rwa [← Bool.not_eq_true, hs]
    simp only [byteAndSettle, byteXfer, hf, xfer_eq, State.wait, State.emit, hw, byteEvents, byteNibbles, lastNibble,
      if_neg h, highNibble, lowNibble, runLatch_append, latchAfter, List.flatMap_cons, List.flatMap_nil, List.append_nil,
      Bool.false_eq_true, if_false, List.append_assoc, runLatch_cons, runLatch_nil]

theorem scriptItem_eq (s : State) (i : ScriptItem) : scriptItem s i = byteAndSettle s (itemMode i) (itemByte i) := by
  cases i <;> rfl

theorem sendCommands_eq (s : State) (bs : List Byte) : sendCommands s bs = scriptItems s (bs.map .cmd) := by
  induction bs generalizing s with
  | nil => rfl
  | cons b bs ih => exact ih _

theorem scriptEvents_cons (c : Config) (i : ScriptItem) (is : List ScriptItem) :
    scriptEvents c (i :: is) = byteEvents c (itemMode i) (itemByte i) ++ scriptEvents c is := List.flatMap_cons ..

/-- A list of bytes, each with its settle, once the operand latches are dead: the mode, the latch and the trace are all that
is written (R103 to R105, R157). -/
theorem scriptItems_retire (s : State) (items : List ScriptItem) :
    (scriptItems s items).retireLatches = ({ s with
      rsMode := scriptMode items s.rsMode
      pa := runLatch s.pa (scriptEvents s.cfg items)
      trace := s.trace ++ scriptEvents s.cfg items } : State).retireLatches := by
  induction items generalizing s with
  | nil => simp [scriptItems, scriptMode, scriptEvents]
  | cons i is ih =>
    rw [scriptItems, ih, scriptItem_eq, byteAndSettle_eq, scriptEvents_cons]
    simp only [runLatch_append, List.append_assoc, scriptMode, List.foldl_cons, State.retireLatches]

/-- `run SCRIPT` (R157): an empty script changes nothing. -/
theorem runScript_eq (s : State) (items : List ScriptItem) :
    runScript s items = if items = [] then s else ({ s with
      rsMode := scriptMode items s.rsMode
      pa := runLatch s.pa (scriptEvents s.cfg items)
      trace := s.trace ++ scriptEvents s.cfg items } : State).retireLatches := by
  cases items with
  | nil => rfl
  | cons i is => rw [if_neg (List.cons_ne_nil i is), ← scriptItems_retire]; rfl

/-- The block's mask on PORT_A, bit by bit (R55). -/
theorem testBit_blockMaskA (c : Config) (k : Nat) : (blockMaskA c).testBit k = blockBitA c k := by
  simp [blockMaskA, testBit_dataMask, testBit_rsMask, testBit_enMask, testBit_buzzMask, blockBitA]

/-- The events of a display script leave every bit that is not a data line, RS or EN (R56), whatever the latch. -/
theorem bit_runLatch_script_undriven (c : Config) (items : List ScriptItem) (p : Port) {k : Nat} (hk : blockBitA c k = false) :
    (runLatch p (scriptEvents c items)).bit k = p.bit k := by
  simp only [blockBitA, Bool.or_eq_false_iff, Bool.and_eq_false_iff, decide_eq_false_iff_not, beq_eq_false_iff_ne] at hk
  obtain ⟨⟨⟨hd, hr⟩, he⟩, -⟩ := hk
  have hn : ∀ n : Nibble, (nibbleMask c n).testBit k = false := by
    intro n
    rw [testBit_nibbleMask]
    rcases hd with hd | hd
    · simp [hd]
    · rw [BitVec.getLsbD_of_ge n (k - c.dataShift) (by omega)]; simp
  have hx : ∀ (m : Bool) (n : Nibble) (q : Port), (runLatch q (xferEvents c m n)).bit k = q.bit k := by
    intro m n q
    have h1 : (dataMask c).testBit k = false := by rw [testBit_dataMask]; rcases hd with hd | hd <;> simp [hd]
    have h2 : (rsMask c).testBit k = false := by rw [testBit_rsMask]; exact beq_eq_false_iff_ne.2 hr
    have h3 : (enMask c).testBit k = false := by rw [testBit_enMask]; exact beq_eq_false_iff_ne.2 he
    cases m <;> simp [xferEvents, latchAfter, Port.bit_set, Port.bit_clr, h1, h2, h3, hn]
  have hb : ∀ (m : Bool) (b : Byte) (q : Port), (runLatch q (byteEvents c m b)).bit k = q.bit k := by
    intro m b q
    unfold byteEvents byteNibbles
    split <;> simp [runLatch_append, hx, latchAfter]
  induction items generalizing p with
  | nil => rfl
  | cons i is ih => rw [scriptEvents_cons, runLatch_append, ih, hb]

end Sys2Proof.Machine
end

