-- ==== Sys2Proof/Laws/Alert.lean ====
section
/-! SUPPORT. The meanings of the display and Alert Machine operations as updates of the state: what a script, a hook and an operation
leave, with the hooks' events written out (spec/42_alert.md R156). -/

namespace Sys2Proof.Machine

/-- LCD_CMD, LCD_DATA: the byte's events, the latch they leave, the mode, dead operand latches, the answer OK. -/
theorem byteAndSettle_retire (s : State) (m : Bool) (b : Byte) :
    (byteAndSettle s m b).retireLatches = ({ s with
      rsMode := m
      pa := runLatch s.pa (byteEvents s.cfg m b)
      trace := s.trace ++ byteEvents s.cfg m b } : State).retireLatches := by
  rw [byteAndSettle_eq]
  simp only [State.retireLatches]

/-- What `run SCRIPT` writes: the mode, PORT_A, the trace and, when the script is not empty, the operand latches, which take
free values. -/
theorem runScript_cases (s : State) (items : List ScriptItem) :
    ∃ l1 l2 l3 l4 d, runScript s items = { s with
      rsMode := scriptMode items s.rsMode
      pa := runLatch s.pa (scriptEvents s.cfg items)
      trace := s.trace ++ scriptEvents s.cfg items
      lcdByte := l1, lcdMode := l2, nib := l3, ch := l4, draws := d } := by
  rw [runScript_eq]
  split
  next h =>
    subst h
    exact ⟨s.lcdByte, s.lcdMode, s.nib, s.ch, s.draws, by simp [scriptMode, scriptEvents]⟩
  next => exact ⟨_, _, _, _, _, rfl⟩

/-- The three hooks: a script, then one change of the buzzer line. -/
theorem onAlertEntered_cases (s : State) :
    ∃ l1 l2 l3 l4 d, onAlertEntered s = { s with
      rsMode := scriptMode s.cfg.msgAlert s.rsMode
      pa := (runLatch s.pa (scriptEvents s.cfg s.cfg.msgAlert)).set (buzzMask s.cfg)
      trace := s.trace ++ (scriptEvents s.cfg s.cfg.msgAlert ++ [.paSet (buzzMask s.cfg)])
      lcdByte := l1, lcdMode := l2, nib := l3, ch := l4, draws := d } := by
  obtain ⟨l1, l2, l3, l4, d, h⟩ := runScript_cases s s.cfg.msgAlert
  exact ⟨l1, l2, l3, l4, d, by simp [onAlertEntered, h, State.paSet]⟩

theorem onAlertCleared_cases (s : State) :
    ∃ l1 l2 l3 l4 d, onAlertCleared s = { s with
      rsMode := scriptMode s.cfg.msgClear s.rsMode
      pa := (runLatch s.pa (scriptEvents s.cfg s.cfg.msgClear)).clr (buzzMask s.cfg)
      trace := s.trace ++ (scriptEvents s.cfg s.cfg.msgClear ++ [.paClr (buzzMask s.cfg)])
      lcdByte := l1, lcdMode := l2, nib := l3, ch := l4, draws := d } := by
  obtain ⟨l1, l2, l3, l4, d, h⟩ := runScript_cases s s.cfg.msgClear
  exact ⟨l1, l2, l3, l4, d, by simp [onAlertCleared, h, State.paClr]⟩

theorem onAcknowledged_cases (s : State) :
    ∃ l1 l2 l3 l4 d, onAcknowledged s = { s with
      rsMode := scriptMode s.cfg.msgAck s.rsMode
      pa := (runLatch s.pa (scriptEvents s.cfg s.cfg.msgAck)).clr (buzzMask s.cfg)
      trace := s.trace ++ (scriptEvents s.cfg s.cfg.msgAck ++ [.paClr (buzzMask s.cfg)])
      lcdByte := l1, lcdMode := l2, nib := l3, ch := l4, draws := d } := by
  obtain ⟨l1, l2, l3, l4, d, h⟩ := runScript_cases s s.cfg.msgAck
  exact ⟨l1, l2, l3, l4, d, by simp [onAcknowledged, h, State.paClr]⟩

end Sys2Proof.Machine
end

