-- ==== Sys2Proof/Laws/Decode.lean ====
section
/-! SUPPORT. The decoder as one chain of tests (spec/30_encoding.md R78), and its masks and fields as arithmetic on the word's
value: a mask of R77 keeps the bits from some position up, so that selecting a row is a division, and every field is a quotient and
remainder. -/

namespace Sys2Proof

theorem find_first {α : Type} (p : α → Bool) (a : α) (l : List α) :
    (a :: l).find? p = if p a = true then some a else l.find? p := by
  by_cases h : p a = true <;> simp [List.find?, h]

/-- R78, test by test. -/
theorem decode_eq (w : Request) : decode w =
    if w &&& 0xFFFFFFFF#32 = 0x00000000#32 then .op .lcdInit
    else if w &&& 0xFFFFFF00#32 = 0x10000000#32 then .op (.lcdCmd (Request.arg0 w))
    else if w &&& 0xFFFFFF00#32 = 0x20000000#32 then .op (.lcdData (Request.arg0 w))
    else if w &&& 0xFFFF0000#32 = 0x30000000#32 then .op (.adcCfg (Request.arg0 w) (Request.arg1 w))
    else if w &&& 0xFFFFFF00#32 = 0x40000000#32 then .op (.adcRead (Request.arg0 w))
    else if w &&& 0xFFFFFFFE#32 = 0x50000000#32 then .op (.alertObs (w.getLsbD 0))
    else if w &&& 0xFFFFFFFF#32 = 0x60000000#32 then .op .alertAck
    else .illegal (illegalReason w) := by
  unfold decode opcodeMap
  simp only [find_first, List.find?_nil, OpcodeRow.selects, beq_iff_eq]
  split_ifs <;> rfl

/-- A mask that keeps the bits from position `k` up keeps the quotient by 2^k. -/
theorem toNat_and_high (w m : Request) (k : Nat) (hk : k ≤ 32) (hm : m.toNat = 2 ^ 32 - 2 ^ k) :
    (w &&& m).toNat = w.toNat / 2 ^ k * 2 ^ k := by
  have hbits : ∀ i, (2 ^ 32 - 2 ^ k).testBit i = (decide (k ≤ i) && decide (i < 32)) := by
    intro i
    have h2 : 2 ^ 32 - 2 ^ k = (2 ^ (32 - k) - 1) * 2 ^ k := by
      rw [Nat.sub_mul, ← pow_add, Nat.sub_add_cancel hk, Nat.one_mul]
    rw [h2, Nat.testBit_mul_two_pow, Nat.testBit_two_pow_sub_one, Bool.eq_iff_iff]
    simp only [Bool.and_eq_true, decide_eq_true_eq]
    omega
  rw [BitVec.toNat_and, hm]
  apply Nat.eq_of_testBit_eq
  intro i
  rw [Nat.testBit_and, hbits, Nat.testBit_mul_two_pow, Nat.testBit_div_two_pow]
  by_cases h1 : k ≤ i
  · by_cases h2 : i < 32
    · simp [h1, h2]
    · have : w.toNat.testBit i = false :=
        Nat.testBit_lt_two_pow (Nat.lt_of_lt_of_le w.isLt (Nat.pow_le_pow_right (by omega) (Nat.le_of_not_lt h2)))
      simp [h1, this]
  · simp [h1]

/-- Selecting a row, as arithmetic (R77). -/
theorem and_high_eq_iff (w m p : Request) (k : Nat) (hk : k ≤ 32) (hm : m.toNat = 2 ^ 32 - 2 ^ k) :
    w &&& m = p ↔ w.toNat / 2 ^ k * 2 ^ k = p.toNat := by
  rw [← BitVec.toNat_inj, toNat_and_high w m k hk hm]

/-- The value of a word of format Q (R75). -/
theorem toNat_formatQ (o : BitVec 4) (a b : Byte) : (formatQ o a b).toNat = o.toNat * 2 ^ 28 + a.toNat * 2 ^ 8 + b.toNat := by
  have := o.isLt
  have := a.isLt
  have := b.isLt
  simp only [formatQ, BitVec.toNat_append, BitVec.toNat_ofNat]
  rw [← Nat.shiftLeft_add_eq_or_of_lt (by omega), ← Nat.shiftLeft_add_eq_or_of_lt (by omega),
    ← Nat.shiftLeft_add_eq_or_of_lt (by omega)]
  simp only [Nat.shiftLeft_eq]
  omega

theorem toNat_arg0 (w : Request) : (Request.arg0 w).toNat = w.toNat % 2 ^ 8 := by
  simp [Request.arg0, BitVec.extractLsb'_toNat]

theorem toNat_arg1 (w : Request) : (Request.arg1 w).toNat = w.toNat / 2 ^ 8 % 2 ^ 8 := by
  simp [Request.arg1, BitVec.extractLsb'_toNat, Nat.shiftRight_eq_div_pow]

theorem toNat_rsv (w : Request) : (Request.rsv w).toNat = w.toNat / 2 ^ 16 % 2 ^ 12 := by
  simp [Request.rsv, BitVec.extractLsb'_toNat, Nat.shiftRight_eq_div_pow]

theorem toNat_opc (w : Request) : (Request.opc w).toNat = w.toNat / 2 ^ 28 := by
  have := w.isLt
  simp only [Request.opc, BitVec.extractLsb'_toNat, Nat.shiftRight_eq_div_pow]
  omega

end Sys2Proof
end

