-- ==== Sys2Proof/Laws/Sampler.lean ====
section
/-! SUPPORT. The converter and the poll loop of ADC_READ: each way a poll can go, and each way the loop can end
(spec/41_sampler.md R133, R137 to R140). -/

namespace Sys2Proof.Machine

/-- The channel that a one-hot SEL selects (R127). -/
theorem selectedChannel_oneHot (c : Channel) : selectedChannel (oneHot c.val) = some c := by
  revert c; decide

/-- A SEL that selects a channel is its one-hot value (R137). -/
theorem oneHot_of_selectedChannel {sel : Byte} {c : Channel} (h : selectedChannel sel = some c) : sel = oneHot c.val := by
  simpa using List.find?_some h

/-- The trigger (R137). -/
theorem trigger_eq {s : State} {c : Channel} (hs : s.sel = oneHot c.val) (hp : s.pdn = true) :
    s.trigger = .next { s.takeAnswer with start := true, done := false, conv := some c } := by
  simp [State.trigger, hs, selectedChannel_oneHot, hp]

/-- A poll that reads 0 while the conversion goes on (R133). -/
theorem pollOnce_waits {s : State} {c : Channel} {p k : Nat} (hc : s.conv = some c) (hd : s.done = false)
    (ha : s.answer.delay = some (k + 1)) (hl : s.cfg.pollLimit ≠ some (p + 1)) :
    pollOnce s p = { s with answer := { s.answer with delay := some k }, seq := .polling (p + 1) } := by
  simp [pollOnce, State.converterTurn, hc, ha, hd, hl]

/-- A poll that reads 0 while the converter never completes (R139). -/
theorem pollOnce_never {s : State} {c : Channel} {p : Nat} (hc : s.conv = some c) (hd : s.done = false)
    (ha : s.answer.delay = none) (hl : s.cfg.pollLimit ≠ some (p + 1)) :
    pollOnce s p = { s with seq := .polling (p + 1) } := by
  simp [pollOnce, State.converterTurn, hc, ha, hd, hl]

/-- The poll before which the converter completes: it reads 1 (R138). -/
theorem pollOnce_completes {s : State} {c : Channel} {p : Nat} (hc : s.conv = some c) (ha : s.answer.delay = some 0) :
    pollOnce s p = finishRead s.complete := by
  simp [pollOnce, State.converterTurn, hc, ha]

/-- The last poll that the limit allows, which reads 0 (R171). -/
theorem pollOnce_timeout {s : State} {p : Nat} (hd : s.converterTurn.done = false) (hl : s.cfg.pollLimit = some (p + 1)) :
    pollOnce s p = timeoutRead s.converterTurn := by
  simp [pollOnce, hd, hl]

/-- The loop ends with the completion, `k` polls from now, when the limit allows it (R133). -/
theorem pollLoop_completes {s : State} {c : Channel} {p k : Nat} (hq : s.seq = .polling p) (hc : s.conv = some c)
    (hd : s.done = false) (ha : s.answer.delay = some k) (hl : ∀ n, s.cfg.pollLimit = some n → p + k < n) :
    pollLoop (k + 1) s =
      finishRead ({ s with answer := { s.answer with delay := some 0 }, seq := .polling (p + k) } : State).complete := by
  induction k generalizing s p with
  | zero =>
    have hs : ({ s with answer := { s.answer with delay := some 0 }, seq := .polling (p + 0) } : State) = s := by
      obtain ⟨_, _, _, _, _, _, _, _, _, _, _, _, _, _, _, _, _, _, _, _, _, _, ⟨_, _, _⟩, _, _⟩ := s
      simp_all
    rw [hs, pollLoop, hq]
    exact pollOnce_completes hc ha
  | succ k ih =>
    have hl' : s.cfg.pollLimit ≠ some (p + 1) := fun h => by have := hl _ h; omega
    rw [pollLoop, hq]
    simp only [pollOnce_waits hc hd ha hl']
    refine (ih (s := { s with answer := { s.answer with delay := some k }, seq := .polling (p + 1) }) (p := p + 1) rfl hc hd rfl
      (fun n h => by have := hl n h; omega)).trans ?_
    simp only [Nat.add_assoc, Nat.add_comm 1 k]

/-- The loop ends with the timeout when the limit comes first (R171): nothing but the sequencer and the converter's own
count has changed since the trigger, START is cleared and the error is returned. -/
theorem pollLoop_timeout {s : State} {c : Channel} {p r n : Nat} (hq : s.seq = .polling p) (hc : s.conv = some c)
    (hd : s.done = false) (hl : s.cfg.pollLimit = some n) (hn : p + r + 1 = n) (ha : ∀ k, s.answer.delay = some k → r + 1 ≤ k) :
    ∃ a q, pollLoop (r + 1) s = timeoutRead { s with answer := a, seq := q } := by
  induction r generalizing s p with
  | zero =>
    have hturn : ∃ a, s.converterTurn = { s with answer := a } := by
      cases hk : s.answer.delay with
      | none => exact ⟨s.answer, show s.converterTurn = s by unfold State.converterTurn; split <;> simp_all⟩
      | some k =>
        have := ha k hk
        obtain ⟨j, rfl⟩ : ∃ j, k = j + 1 := ⟨k - 1, by omega⟩
        exact ⟨_, by simp [State.converterTurn, hc, hk]; rfl⟩
    obtain ⟨a, hturn⟩ := hturn
    have hdone : s.converterTurn.done = false := by rw [hturn]; exact hd
    refine ⟨a, s.seq, ?_⟩
    rw [pollLoop, hq]
    simp only [pollLoop]
    rw [pollOnce_timeout hdone (by rw [hl, ← hn]), hturn, ← hq]
  | succ r ih =>
    have hl' : s.cfg.pollLimit ≠ some (p + 1) := by rw [hl]; simp; omega
    rw [pollLoop, hq]
    cases hk : s.answer.delay with
    | none =>
      simp only [pollOnce_never hc hd hk hl']
      exact ih (p := p + 1) rfl hc hd hl (by omega) (fun k h => by simp [hk] at h)
    | some k =>
      have := ha k hk
      obtain ⟨j, rfl⟩ : ∃ j, k = j + 1 := ⟨k - 1, by omega⟩
      simp only [pollOnce_waits hc hd hk hl']
      exact ih (p := p + 1) rfl hc hd hl (by omega) (fun k' h => by simp at h; omega)

/-- The state in which the polls of an ADC_READ begin: SEL one-hot, the conversion in flight, and the converter's answer
taken (R126 steps 2 to 4). -/
def triggered (s : State) (ch : Byte) (c : Channel) : State :=
  { s.takeAnswer with ch := ch, sel := oneHot c.val, start := true, done := false, conv := some c }

/-- Taking an answer writes the answer, what is left of the list, and the count of free values. -/
theorem takeAnswer_eq (s : State) :
    ∃ d, s.takeAnswer = { s with answer := s.nextAnswer, answers := s.answers.drop 1, draws := d } := by
  unfold State.takeAnswer State.nextAnswer
  split
  next h => exact ⟨s.draws + 1, by simp [h]⟩
  next h => exact ⟨s.draws, by simp [h]⟩

/-- The state in which the polls begin, as one update. -/
theorem triggered_eq (s : State) (ch : Byte) (c : Channel) :
    ∃ d, triggered s ch c = { s with
      ch := ch, sel := oneHot c.val, start := true, done := false, conv := some c
      answer := s.nextAnswer, answers := s.answers.drop 1, draws := d } := by
  obtain ⟨d, h⟩ := takeAnswer_eq s
  exact ⟨d, by simp only [triggered, h]⟩

/-- ADC_READ of a channel that passes its check, with the converter powered, is its poll loop (R126). -/
theorem execAdcRead_eq {s : State} {ch : Byte} {c : Channel} (hc : c.val = ch.toNat) (hb : badChannel s ch = false)
    (hp : s.pdn = true) :
    execAdcRead ch s =
      .next (pollLoop (pollTurns s.cfg.pollLimit s.nextAnswer.delay) { triggered s ch c with seq := .polling 0 }) := by
  simp only [execAdcRead, hb, Bool.false_eq_true, if_false, State.writeSel, ← hc]
  rw [trigger_eq (s := ({ s with ch := ch, sel := oneHot c.val } : State)) (c := c) rfl hp]
  simp only [triggered, State.takeAnswer, State.nextAnswer]
  cases s.answers <;> rfl

/-- Every way an ADC_READ that answers a next state can have gone: rejected; ended by the completion; ended by the limit; or
still at the poll, with no positive limit to end it. -/
theorem execAdcRead_cases {s t : State} {ch : Byte} (h : execAdcRead ch s = .next t) :
    t = s.raise .configurationError ∨
      ∃ c : Channel, c.val = ch.toNat ∧ s.isRouted c.val = true ∧ s.pdn = true ∧
        ((∃ a q, t = finishRead ({ triggered s ch c with answer := a, seq := q } : State).complete)
          ∨ (∃ a q, t = timeoutRead { triggered s ch c with answer := a, seq := q })
          ∨ ((∀ n, s.cfg.pollLimit = some n → n = 0) ∧ ∃ k, t = { triggered s ch c with seq := .polling k })) := by
  by_cases hb : badChannel s ch = true
  · left
    rw [execAdcRead, if_pos hb] at h
    exact (Host.Outcome.next.inj h).symm
  · right
    have hb' : badChannel s ch = false := by simpa using hb
    have hbb := hb'
    simp only [badChannel, Bool.or_eq_false_iff, decide_eq_false_iff_not, Bool.not_eq_false'] at hbb
    obtain ⟨⟨hlt, -⟩, hr⟩ := hbb
    have hlt' : ch.toNat < 8 := by omega
    refine ⟨⟨ch.toNat, hlt'⟩, rfl, hr, ?_⟩
    have hp : s.pdn = true := by
      by_contra hp
      have hp' : s.pdn = false := by simpa using hp
      have hsel := selectedChannel_oneHot ⟨ch.toNat, hlt'⟩
      simp [execAdcRead, hb', State.writeSel, State.trigger, hsel, hp'] at h
    refine ⟨hp, ?_⟩
    rw [execAdcRead_eq (c := ⟨ch.toNat, hlt'⟩) rfl hb' hp] at h
    replace h := (Host.Outcome.next.inj h).symm
    subst h
    obtain ⟨d, ht⟩ := takeAnswer_eq s
    generalize hu : ({ triggered s ch ⟨ch.toNat, hlt'⟩ with seq := .polling 0 } : State) = u
    have h1 : u.seq = .polling 0 := by rw [← hu]
    have h2 : u.conv = some ⟨ch.toNat, hlt'⟩ := by rw [← hu]; rfl
    have h3 : u.done = false := by rw [← hu]; rfl
    have h4 : u.answer = s.nextAnswer := by rw [← hu]; simp [triggered, ht]
    have h5 : u.cfg = s.cfg := by rw [← hu]; simp [triggered, ht]
    rcases hl : s.cfg.pollLimit with _ | n <;> rcases hd : s.nextAnswer.delay with _ | k
    · refine .inr (.inr ⟨fun n hn => by simp at hn, 1, ?_⟩)
      simp only [pollTurns, pollLoop, h1]
      rw [pollOnce_never h2 h3 (by rw [h4, hd]) (by simp [h5, hl]), ← hu]
    · refine .inl ⟨{ u.answer with delay := some 0 }, .polling (0 + k), ?_⟩
      simp only [pollTurns]
      rw [pollLoop_completes h1 h2 h3 (by rw [h4, hd]) (fun n hn => by simp [h5, hl] at hn), ← hu]
    · rcases Nat.eq_zero_or_pos n with rfl | hn
      · exact .inr (.inr ⟨fun m hm => by simpa using hm.symm, 0, by simp only [pollTurns, pollLoop]; exact hu.symm⟩)
      · obtain ⟨a, q, hq⟩ := pollLoop_timeout (r := n - 1) (n := n) h1 h2 h3 (by rw [h5, hl]) (by omega)
          (fun k hk => by rw [h4, hd] at hk; cases hk)
        refine .inr (.inl ⟨a, q, ?_⟩)
        simp only [pollTurns]
        rw [show n = n - 1 + 1 by omega, hq, ← hu]
    · rcases Nat.lt_or_ge k n with hkn | hkn
      · refine .inl ⟨{ u.answer with delay := some 0 }, .polling (0 + k), ?_⟩
        simp only [pollTurns, show min n (k + 1) = k + 1 by omega]
        rw [pollLoop_completes h1 h2 h3 (by rw [h4, hd]) (fun m hm => by simp [h5, hl] at hm; omega), ← hu]
      · rcases Nat.eq_zero_or_pos n with rfl | hn
        · exact .inr (.inr ⟨fun m hm => by simpa using hm.symm, 0, by simp only [pollTurns, Nat.zero_min, pollLoop]; exact hu.symm⟩)
        · obtain ⟨a, q, hq⟩ := pollLoop_timeout (r := n - 1) (n := n) h1 h2 h3 (by rw [h5, hl]) (by omega)
            (fun k' hk => by rw [h4, hd] at hk; simp at hk; omega)
          refine .inr (.inl ⟨a, q, ?_⟩)
          simp only [pollTurns, show min n (k + 1) = n - 1 + 1 by omega]
          rw [hq, ← hu]

end Sys2Proof.Machine
end

