-- ==== Sys2Proof/Laws/Step.lean ====
section
/-! SUPPORT. Everything one step can do, said once: the poll in progress takes a turn, or the host moves its program on (and may
read a pin) and then nothing more happens, an illegal word is answered, or an operation runs. -/

namespace Sys2Proof.Machine

/-- The host has moved on to the program `p`, after reading the pins of PORT_A under the mask `m` if there is one. -/
def hostMove (s : State) (p : List HostItem) : Option Nat → State
  | none => { s with program := p }
  | some m => ({ s with program := p } : State).paRead m

/-- Everything a step that answers a next state has done. -/
theorem step_cases {s t : State} (h : step s = .next t) :
    s.cfg.wf = true ∧
      ((∃ polls, s.seq = .polling polls ∧ t = pollOnce s polls)
        ∨ (s.seq = .idle ∧ ∃ p m, t = hostMove s p m ∨ t = (hostMove s p m).rejectIllegal
            ∨ ∃ i, exec i (hostMove s p m) = .next t)) := by
  unfold step at h
  split at h
  next hw =>
    refine ⟨hw, ?_⟩
    unfold advance at h
    split at h
    next polls hq => exact .inl ⟨polls, hq, (Host.Outcome.next.inj h).symm⟩
    next hq =>
      refine .inr ⟨hq, ?_⟩
      split at h
      next hp => exact ⟨s.program, none, .inl (Host.Outcome.next.inj h).symm⟩
      next item rest hp =>
        unfold issue at h
        split at h
        next w =>
          unfold present at h
          split at h
          next i _ => exact ⟨rest, none, .inr (.inr ⟨i, h⟩)⟩
          next => exact ⟨rest, none, .inr (.inl (Host.Outcome.next.inj h).symm)⟩
        next => exact ⟨rest, none, .inl (Host.Outcome.next.inj h).symm⟩
        next c cs => exact ⟨.lcdStr cs :: rest, none, .inr (.inr ⟨_, h⟩)⟩
        next => exact ⟨rest, some (pirMask s.cfg), .inr (.inr ⟨_, h⟩)⟩
        next c => exact ⟨.alertObsOfSample :: rest, none, .inr (.inr ⟨_, h⟩)⟩
        next =>
          unfold runAlertObsOfSample at h
          split at h
          next => exact ⟨rest, none, .inl (Host.Outcome.next.inj h).symm⟩
          next =>
            split at h
            next => exact ⟨rest, none, .inr (.inr ⟨_, h⟩)⟩
            next => exact ⟨rest, none, .inl (Host.Outcome.next.inj h).symm⟩
        next =>
          unfold runAlertAckPin at h
          split at h
          next => exact ⟨rest, some (ackMask s.cfg), .inr (.inr ⟨_, h⟩)⟩
          next => exact ⟨rest, some (ackMask s.cfg), .inl (Host.Outcome.next.inj h).symm⟩
  next => cases h

/-- A step of an idle block issues the host's next item (R88, R89). -/
theorem step_issues {s : State} {item : HostItem} {rest : List HostItem} (hw : s.cfg.wf = true) (hq : s.seq = .idle)
    (hp : s.program = item :: rest) : step s = issue item rest s := by
  unfold step advance
  rw [if_pos hw, hq, hp]

/-- A step of a polling block is one turn of the poll (R89, R133). -/
theorem step_polls {s : State} {polls : Nat} (hw : s.cfg.wf = true) (hq : s.seq = .polling polls) :
    step s = .next (pollOnce s polls) := by
  unfold step advance
  rw [if_pos hw, hq]

/-- A run of `k + 1` steps is a step and then a run of `k`. -/
theorem run_succ {s t : State} (h : step s = .next t) (k : Nat) :
    Host.Core.run Sys2Proof.core (k + 1) s = Host.Core.run Sys2Proof.core k t := by
  have h' : Sys2Proof.core.step s = .next t := h
  simp only [Host.Core.run, h']

/-- What a host move leaves of the block: everything. -/
theorem hostMove_keeps (s : State) (p : List HostItem) (m : Option Nat) :
    let u := hostMove s p m
    SameSampler s u ∧ SameAlert s u ∧ SameDisplay s u ∧ SameLatches s u ∧ u.cfg = s.cfg ∧ u.seq = s.seq ∧ u.rsps = s.rsps
      ∧ u.answer = s.answer ∧ u.answers = s.answers
      ∧ ∃ es, u.trace = s.trace ++ es ∧ ∀ q, es.foldl latchAfter q = q := by
  cases m with
  | none => exact ⟨⟨rfl, rfl, rfl, rfl, rfl, rfl, rfl, rfl⟩, ⟨rfl, rfl⟩, ⟨rfl, rfl⟩, ⟨rfl, rfl, rfl, rfl⟩, rfl, rfl, rfl, rfl, rfl,
      [], by simp [hostMove], fun q => rfl⟩
  | some m =>
    refine ⟨⟨?_, ?_, ?_, ?_, ?_, ?_, ?_, ?_⟩, ⟨?_, ?_⟩, ⟨?_, ?_⟩, ⟨?_, ?_, ?_, ?_⟩, ?_, ?_, ?_, ?_, ?_,
      [.paRead m (({ s with program := p } : State).paReadValue m)], ?_, fun q => rfl⟩
    all_goals simp [hostMove]

end Sys2Proof.Machine
end

