-- ==== Sys2Proof/Laws/Exec.lean ====
section
/-! SUPPORT. Everything an operation can do, said once: what exec leaves, whichever operation it runs. A proof about every
operation, or every step, splits along these cases and unfolds no meaning. -/

namespace Sys2Proof.Machine

/-- The operations that answer without having driven a line (R125, R126, R151, R158): a rejected channel or set, and an
observation or acknowledgement that changes no state but the counter. -/
def Answered (s t : State) : Prop :=
  ∃ n r, t = { s with persistCnt := n, rsps := s.rsps ++ [r], seq := .idle }
    ∧ (n = s.persistCnt ∨ (s.alertState = .alert ∧ (n = 0 ∨ n.toNat < s.cfg.threshold)))

/-- A display operation (R103 to R105): bytes sent as script items are, after waits. -/
def Displayed (s t : State) : Prop :=
  ∃ (waits : List Nat) (items : List ScriptItem) (l1 : Byte) (l2 : Bool) (l3 : Nibble) (l4 : Byte) (d : Nat) (r : Response), t = { s with
    rsMode := scriptMode items s.rsMode
    pa := runLatch s.pa (scriptEvents s.cfg items)
    trace := s.trace ++ (waits.map .wait ++ scriptEvents s.cfg items)
    lcdByte := l1, lcdMode := l2, nib := l3, ch := l4, draws := d
    rsps := s.rsps ++ [r], seq := .idle }

/-- An ADC_CFG that is not rejected (R125). -/
def Configured (s t : State) : Prop :=
  ∃ chset div r, badChannelSet s.cfg chset = false ∧ t = { s with
    pdn := true
    pb := s.pb.set (routeMask s.cfg chset)
    clkdiv := div
    trace := s.trace ++ [.pbSet (routeMask s.cfg chset)]
    rsps := s.rsps ++ [r], seq := .idle }

/-- An ADC_READ that is not rejected (R126): ended by the completion, ended by the limit, or still at the poll. -/
def Sampled (s t : State) : Prop :=
  ∃ (ch : Byte) (c : Channel), c.val = ch.toNat ∧ s.isRouted c.val = true ∧ s.pdn = true ∧
    ((∃ a q, t = finishRead ({ triggered s ch c with answer := a, seq := q } : State).complete)
      ∨ (∃ a q, t = timeoutRead { triggered s ch c with answer := a, seq := q })
      ∨ ((∀ n, s.cfg.pollLimit = some n → n = 0) ∧ ∃ k, t = { triggered s ch c with seq := .polling k }))

/-- The Alert Machine has entered the state `a` (R152, R154, R158): the counter is 0, a script has run, and the buzzer is on
exactly in Alert. -/
def Transitioned (s t : State) : Prop :=
  ∃ a items l1 l2 l3 l4 d r, t = { s with
    alertState := a, persistCnt := 0
    rsMode := scriptMode items s.rsMode
    pa := if a = .alert then (runLatch s.pa (scriptEvents s.cfg items)).set (buzzMask s.cfg)
          else (runLatch s.pa (scriptEvents s.cfg items)).clr (buzzMask s.cfg)
    trace := s.trace ++ (scriptEvents s.cfg items ++ [if a = .alert then .paSet (buzzMask s.cfg) else .paClr (buzzMask s.cfg)])
    lcdByte := l1, lcdMode := l2, nib := l3, ch := l4, draws := d
    rsps := s.rsps ++ [r], seq := .idle }

theorem execAlertObs_cases {b : Bool} {s t : State} (h : execAlertObs b s = .next t) : Answered s t ∨ Transitioned s t := by
  unfold execAlertObs at h
  split at h
  next hs =>
    obtain ⟨l1, l2, l3, l4, d, he⟩ := onAlertEntered_cases (s.enterAlertState .alert)
    exact .inr ⟨.alert, s.cfg.msgAlert, l1, l2, l3, l4, d, _, by rw [← Host.Outcome.next.inj h, he]; rfl⟩
  next hs => exact .inl ⟨s.persistCnt, _, (Host.Outcome.next.inj h).symm, .inl rfl⟩
  next hs => exact .inl ⟨0, _, (Host.Outcome.next.inj h).symm, .inr ⟨hs, .inl rfl⟩⟩
  next hs =>
    replace h := Host.Outcome.next.inj h
    unfold observeFalseInAlert at h
    obtain ⟨l1, l2, l3, l4, d, he⟩ :=
      onAlertCleared_cases (({ s with persistCnt := s.persistCnt + 1 } : State).enterAlertState .quiescent)
    dsimp only at h
    split at h
    next => exact .inr ⟨.quiescent, s.cfg.msgClear, l1, l2, l3, l4, d, _, by rw [← h, he]; rfl⟩
    next hl => exact .inl ⟨s.persistCnt + 1, _, h.symm, .inr ⟨hs, .inr (Nat.lt_of_not_le hl)⟩⟩

theorem execAlertAck_cases {s t : State} (h : execAlertAck s = .next t) : Answered s t ∨ Transitioned s t := by
  unfold execAlertAck at h
  split at h
  next hs =>
    obtain ⟨l1, l2, l3, l4, d, he⟩ := onAcknowledged_cases (s.enterAlertState .quiescent)
    exact .inr ⟨.quiescent, s.cfg.msgAck, l1, l2, l3, l4, d, _, by rw [← Host.Outcome.next.inj h, he]; rfl⟩
  next hs => exact .inl ⟨s.persistCnt, _, (Host.Outcome.next.inj h).symm, .inl rfl⟩

theorem execAdcCfg_cases {chset div : Byte} {s t : State} (h : execAdcCfg chset div s = .next t) :
    Answered s t ∨ Configured s t := by
  unfold execAdcCfg at h
  split at h
  next => exact .inl ⟨s.persistCnt, _, (Host.Outcome.next.inj h).symm, .inl rfl⟩
  next hb => exact .inr ⟨chset, div, _, by simpa using hb, (Host.Outcome.next.inj h).symm⟩

/-- The end of a display operation: the latches retired and the answer given. -/
theorem displayed_of_script (s : State) (waits : List Nat) (items : List ScriptItem) :
    Displayed s (({ s with
      rsMode := scriptMode items s.rsMode
      pa := runLatch s.pa (scriptEvents s.cfg items)
      trace := s.trace ++ (waits.map .wait ++ scriptEvents s.cfg items) } : State).retireLatches.respond .ok 0) :=
  ⟨waits, items, Config.freeByte s.draws, Config.freeMode s.draws, Config.freeNib s.draws, Config.freeCh s.draws, s.draws + 1,
    responseWord .ok 0, rfl⟩

/-- One byte as a script of one item. -/
theorem byteAndSettle_displayed (s : State) (m : Bool) (b : Byte) :
    Displayed s ((byteAndSettle s m b).retireLatches.respond .ok 0) := by
  rw [byteAndSettle_retire]
  have := displayed_of_script s [] [if m then .data b else .cmd b]
  cases m <;> simpa [scriptMode, scriptEvents, itemMode, itemByte] using this

/-- What an operation that answers a next state has done. -/
theorem exec_cases {i : Instr} {s t : State} (h : exec i s = .next t) :
    Answered s t ∨ Displayed s t ∨ Configured s t ∨ Sampled s t ∨ Transitioned s t := by
  cases i with
  | lcdInit =>
    right; left
    rw [← Host.Outcome.next.inj h, sendCommands_eq, scriptItems_retire]
    simpa [State.wait, State.emit] using displayed_of_script s [s.cfg.tPowerup] (initRom.map .cmd)
  | lcdCmd b => exact .inr (.inl (by rw [← Host.Outcome.next.inj h]; exact byteAndSettle_displayed s false b))
  | lcdData b => exact .inr (.inl (by rw [← Host.Outcome.next.inj h]; exact byteAndSettle_displayed s true b))
  | adcCfg chset div => exact (execAdcCfg_cases h).elim .inl (fun h => .inr (.inr (.inl h)))
  | adcRead ch =>
    rcases execAdcRead_cases h with rfl | ⟨c, hc, hr, hp, hx⟩
    · exact .inl ⟨s.persistCnt, _, rfl, .inl rfl⟩
    · exact .inr (.inr (.inr (.inl ⟨ch, c, hc, hr, hp, hx⟩)))
  | alertObs b => exact (execAlertObs_cases h).elim .inl (fun h => .inr (.inr (.inr (.inr h))))
  | alertAck => exact (execAlertAck_cases h).elim .inl (fun h => .inr (.inr (.inr (.inr h))))

/-- The one turn of a poll (R133): the read is over, with the sample or by the limit, or it goes on. -/
theorem pollOnce_cases (s : State) (p : Nat) :
    (∃ u, (u = s ∨ u = s.complete ∨ ∃ a, u = { s with answer := a }) ∧ pollOnce s p = finishRead u ∧ u.done = true)
      ∨ (∃ a, s.cfg.pollLimit = some (p + 1) ∧ pollOnce s p = timeoutRead { s with answer := a })
      ∨ (∃ a, s.cfg.pollLimit ≠ some (p + 1) ∧ pollOnce s p = { s with answer := a, seq := .polling (p + 1) }) := by
  have hturn : s.converterTurn = s.complete ∨ ∃ a, s.converterTurn = { s with answer := a } := by
    unfold State.converterTurn
    split
    · exact .inr ⟨s.answer, rfl⟩
    · exact .inr ⟨s.answer, rfl⟩
    · exact .inl rfl
    · exact .inr ⟨_, rfl⟩
  simp only [pollOnce]
  split
  next hd => exact .inl ⟨_, hturn.elim (fun h => .inr (.inl h)) (fun h => .inr (.inr h)), rfl, hd⟩
  next hd =>
    rcases hturn with h | ⟨a, h⟩
    · exact absurd (by rw [h]; rfl) hd
    · rw [h]
      split
      next hl => exact .inr (.inl ⟨a, hl, rfl⟩)
      next hl => exact .inr (.inr ⟨a, hl, rfl⟩)

end Sys2Proof.Machine
end

