-- ==== Sys2Proof/Laws/PerInstr.lean ====
section
/-! SUPPORT. Per-instruction facts about the encoding, one lemma for each constructor of Instr. Family Fields: an operation's word
holds the operation code that R77 gives it in OPC and 0 in RSV. -/

namespace Sys2Proof

/-- The OPC column of R77. -/
def Instr.opc : Instr → BitVec 4
  | .lcdInit => 0x0
  | .lcdCmd _ => 0x1
  | .lcdData _ => 0x2
  | .adcCfg _ _ => 0x3
  | .adcRead _ => 0x4
  | .alertObs _ => 0x5
  | .alertAck => 0x6

/-- The code in OPC and the zeros in RSV, for a word of format Q. -/
theorem fields_formatQ (o : BitVec 4) (a b : Byte) : Request.opc (formatQ o a b) = o ∧ Request.rsv (formatQ o a b) = 0 := by
  have := o.isLt
  have := a.isLt
  have := b.isLt
  constructor <;> apply BitVec.eq_of_toNat_eq
  · rw [toNat_opc, toNat_formatQ]; omega
  · rw [toNat_rsv, toNat_formatQ]; change _ = 0; omega

namespace Laws.Fields

/-- The word of `i` holds its operation code, and 0 in the reserved field. -/
def Statement (i : Instr) : Prop := Request.opc (encode i) = i.opc ∧ Request.rsv (encode i) = 0

theorem lcdInit : Statement .lcdInit := fields_formatQ ..

theorem lcdCmd (b : Byte) : Statement (.lcdCmd b) := fields_formatQ ..

theorem lcdData (b : Byte) : Statement (.lcdData b) := fields_formatQ ..

theorem adcCfg (chset div : Byte) : Statement (.adcCfg chset div) := fields_formatQ ..

theorem adcRead (ch : Byte) : Statement (.adcRead ch) := fields_formatQ ..

theorem alertObs (t : Bool) : Statement (.alertObs t) := fields_formatQ ..

theorem alertAck : Statement .alertAck := fields_formatQ ..

end Laws.Fields

end Sys2Proof
end

