-- ==== Sys2Proof/Laws/Strobes.lean ====
section
/-! SUPPORT. What the display sees of a nibble transfer: the bits of PORT_A after it, its one strobe, and the stability of
the lines under it. -/

namespace Sys2Proof.Machine

/-- The lines after XFER(m, n): the nibble, the mode, EN low, everything else as before (R100). -/
theorem bit_runLatch_xfer {c : Config} (h : c.PinFacts) (p : Port) (hp : p.width = c.portW) (m : Bool) (n : Nibble) (k : Nat) :
    (runLatch p (xferEvents c m n)).bit k =
      if c.dataShift ≤ k ∧ k < c.dataShift + 4 then n.getLsbD (k - c.dataShift)
      else if k = c.rsBit then m
      else if k = c.enBit then false
      else p.bit k := by
  obtain ⟨hd, hr, he, -, -, -, -, ro, eo, -, re, -, -⟩ := h
  cases m <;>
    simp only [xferEvents, runLatch_cons, runLatch_nil, latchAfter, Port.bit_clr, Port.bit_set, testBit_rsMask, testBit_enMask,
      testBit_dataMask, testBit_nibbleMask, Port.set_width, Port.clr_width, hp, if_true, Bool.false_eq_true, if_false]
  all_goals
    by_cases h1 : c.dataShift ≤ k ∧ k < c.dataShift + 4
    · have e1 : (k == c.rsBit) = false := beq_eq_false_iff_ne.2 (by omega)
      have e2 : (k == c.enBit) = false := beq_eq_false_iff_ne.2 (by omega)
      have e3 : k < c.portW := by omega
      simp [h1, e1, e2, e3]
    · have hn : (decide (c.dataShift ≤ k) && n.getLsbD (k - c.dataShift)) = false := by
        by_contra hx
        simp only [Bool.not_eq_false, Bool.and_eq_true, decide_eq_true_eq] at hx
        have := BitVec.lt_of_getLsbD hx.2
        omega
      have hm : (decide (c.dataShift ≤ k) && decide (k < c.dataShift + 4)) = false := by
        rw [← Bool.decide_and]; exact decide_eq_false h1
      by_cases e2 : k = c.enBit
      · have e1 : k ≠ c.rsBit := by omega
        have hx : ¬(c.dataShift ≤ c.enBit ∧ c.enBit < c.dataShift + 4) := by omega
        simp [e2, hx, re.symm]
      · by_cases e1 : k = c.rsBit
        · subst e1
          simp [h1, hn, hm, hr, beq_eq_false_iff_ne.2 re]
        · simp [h1, e1, e2, hn, hm, beq_eq_false_iff_ne.2 e1, beq_eq_false_iff_ne.2 e2]

/-- A latch whose data lines hold `n` shows `n` (R59). -/
theorem dataLines_eq {c : Config} {p : Port} {n : Nibble} (hp : ∀ i, i < 4 → p.bit (c.dataShift + i) = n.getLsbD i) :
    dataLines c p = n := by
  apply BitVec.eq_of_getLsbD_eq
  intro i hi
  rw [dataLines, BitVec.getLsbD_ofNat, Nat.testBit_shiftRight]
  simpa [hi, Port.bit, BitVec.getLsbD] using hp i hi

/-- The latch after events 1 to 4 of XFER(m, n) (R100): EN is high. -/
def strobedLatch (c : Config) (p : Port) (m : Bool) (n : Nibble) : Port :=
  match m with
  | true => (((p.clr (dataMask c)).set (nibbleMask c n)).set (rsMask c)).set (enMask c)
  | false => (((p.clr (dataMask c)).set (nibbleMask c n)).clr (rsMask c)).set (enMask c)

/-- While EN is high the lines hold the nibble and RS is the mode (R100). -/
theorem latch_under_strobe {c : Config} (h : c.PinFacts) (p : Port) (hp : p.width = c.portW) (m : Bool) (n : Nibble) :
    (∀ i, i < 4 → (strobedLatch c p m n).bit (c.dataShift + i) = n.getLsbD i)
      ∧ (strobedLatch c p m n).bit c.rsBit = m ∧ (strobedLatch c p m n).bit c.enBit = true := by
  obtain ⟨hd, hr, he, -, -, -, -, ro, eo, -, re, -, -⟩ := h
  have re' : (c.enBit == c.rsBit) = false := beq_eq_false_iff_ne.2 re.symm
  have re'' : (c.rsBit == c.enBit) = false := beq_eq_false_iff_ne.2 re
  have hn : (decide (c.dataShift ≤ c.rsBit) && n.getLsbD (c.rsBit - c.dataShift)) = false := by
    by_contra hx
    simp only [Bool.not_eq_false, Bool.and_eq_true, decide_eq_true_eq] at hx
    have := BitVec.lt_of_getLsbD hx.2
    omega
  have hm : (decide (c.dataShift ≤ c.rsBit) && decide (c.rsBit < c.dataShift + 4)) = false := by
    simp only [Bool.and_eq_false_iff, decide_eq_false_iff_not]; omega
  cases m <;>
    simp only [strobedLatch, Port.bit_clr, Port.bit_set, testBit_rsMask, testBit_enMask, testBit_dataMask,
      testBit_nibbleMask, Port.set_width, Port.clr_width, hp] <;>
    refine ⟨fun i hi => ?_, ?_, ?_⟩
  all_goals first
    | (have e1 : (c.dataShift + i == c.rsBit) = false := beq_eq_false_iff_ne.2 (by omega)
       have e2 : (c.dataShift + i == c.enBit) = false := beq_eq_false_iff_ne.2 (by omega)
       have e3 : c.dataShift + i < c.portW := by omega
       simp [e1, e2, e3, hi])
    | simp [hn, hm, hr, he, re', re'']

/-- XFER(m, n) "adds exactly one pair (m, n) to the strobe trace, at event 6" (R100). -/
theorem strobes_xfer {c : Config} (h : c.PinFacts) (p : Port) (hp : p.width = c.portW) (m : Bool) (n : Nibble)
    (es : List Event) : strobes c p (xferEvents c m n ++ es) = (m, n) :: strobes c (runLatch p (xferEvents c m n)) es := by
  have hq := latch_under_strobe h p hp m n
  obtain ⟨hdl, hrs, hqe⟩ := hq
  have re' : (c.enBit == c.rsBit) = false := beq_eq_false_iff_ne.2 h.rsNeEn.symm
  have hd : (dataMask c).testBit c.enBit = false := by
    rw [testBit_dataMask, ← Bool.decide_and]
    exact decide_eq_false (by have := h.enOutside; omega)
  cases m
  all_goals
    simp only [strobedLatch] at hdl hrs hqe
    simp [xferEvents, strobes, fallsEn, latchAfter, testBit_rsMask, testBit_enMask, re', hd, hqe, hrs, dataLines_eq hdl]

/-- RS and the data lines hold still while EN is high in XFER(m, n) (R107). -/
theorem stable_xfer {c : Config} (h : c.PinFacts) (p : Port) (hp : p.width = c.portW) (hen : p.bit c.enBit = false)
    (m : Bool) (n : Nibble) (es : List Event) :
    stableUnderStrobe c p (xferEvents c m n ++ es) = stableUnderStrobe c (runLatch p (xferEvents c m n)) es := by
  have hq := latch_under_strobe h p hp m n
  obtain ⟨hdl, hrs, hqe⟩ := hq
  have re' : (c.enBit == c.rsBit) = false := beq_eq_false_iff_ne.2 h.rsNeEn.symm
  have hd : (dataMask c).testBit c.enBit = false := by
    rw [testBit_dataMask, ← Bool.decide_and]
    exact decide_eq_false (by have := h.enOutside; omega)
  have hnb : (nibbleMask c n).testBit c.enBit = false := by
    by_contra hx
    simp only [testBit_nibbleMask, Bool.not_eq_false, Bool.and_eq_true, decide_eq_true_eq] at hx
    have := BitVec.lt_of_getLsbD hx.2
    have := h.enOutside
    omega
  have hlast : ∀ q : Port, (∀ i, i < 4 → q.bit (c.dataShift + i) = n.getLsbD i) → dataLines c (q.clr (enMask c)) = n := by
    intro q hq
    refine dataLines_eq fun i hi => ?_
    have e2 : (c.dataShift + i == c.enBit) = false := beq_eq_false_iff_ne.2 (by have := h.enOutside; omega)
    simp [Port.bit_clr, testBit_enMask, e2, hq i hi]
  have hrl : ∀ q : Port, (q.clr (enMask c)).bit c.rsBit = q.bit c.rsBit := by
    intro q
    simp [Port.bit_clr, testBit_enMask, beq_eq_false_iff_ne.2 h.rsNeEn]
  cases m
  all_goals
    simp only [strobedLatch] at hdl hrs hqe
    have hl := hlast _ hdl
    have hr := hrl
    simp [xferEvents, stableUnderStrobe, latchAfter, hen, Port.bit_set, Port.bit_clr, testBit_rsMask, testBit_enMask, re', hd,
      hnb, dataLines_eq hdl, hl, beq_eq_false_iff_ne.2 h.rsNeEn]

/-- The lines after a byte (R103, R104). -/
theorem bit_runLatch_byte {c : Config} (h : c.PinFacts) (p : Port) (hp : p.width = c.portW) (m : Bool) (b : Byte) (k : Nat) :
    (runLatch p (byteEvents c m b)).bit k = lineAfterByte c m b (p.bit k) k := by
  by_cases hb : m = false ∧ (b = 0x30 ∨ b = 0x20)
  · simp only [byteEvents, byteNibbles, lastNibble, lineAfterByte, if_pos hb, List.flatMap_cons, List.flatMap_nil,
      List.append_nil, runLatch_append, runLatch_cons, runLatch_nil, latchAfter, bit_runLatch_xfer h p hp]
  · simp only [byteEvents, byteNibbles, lastNibble, lineAfterByte, if_neg hb, List.flatMap_cons, List.flatMap_nil,
      List.append_nil, runLatch_append, runLatch_cons, runLatch_nil, latchAfter]
    rw [bit_runLatch_xfer h _ (by simpa using hp), bit_runLatch_xfer h _ hp]
    split <;> [rfl; split <;> [rfl; split <;> rfl]]

/-- EN is low after a byte (R217). -/
theorem enLow_after_byte {c : Config} (h : c.PinFacts) (p : Port) (hp : p.width = c.portW) (m : Bool) (b : Byte) :
    (runLatch p (byteEvents c m b)).bit c.enBit = false := by
  rw [bit_runLatch_byte h p hp, lineAfterByte, if_neg (by have := h.enOutside; omega), if_neg h.rsNeEn.symm, if_pos rfl]

/-- The strobes of a byte, and then those of what follows (R103, R104). -/
theorem strobes_byte {c : Config} (h : c.PinFacts) (p : Port) (hp : p.width = c.portW) (m : Bool) (b : Byte)
    (es : List Event) :
    strobes c p (byteEvents c m b ++ es) = byteStrobes m b ++ strobes c (runLatch p (byteEvents c m b)) es := by
  by_cases hb : m = false ∧ (b = 0x30 ∨ b = 0x20)
  · simp only [byteEvents, byteNibbles, byteStrobes, if_pos hb, List.flatMap_cons, List.flatMap_nil, List.append_nil,
      List.append_assoc, strobes_xfer h p hp, runLatch_append, List.map_cons, List.map_nil, List.cons_append, List.nil_append]
    rfl
  · simp only [byteEvents, byteNibbles, byteStrobes, if_neg hb, List.flatMap_cons, List.flatMap_nil, List.append_nil,
      List.append_assoc, strobes_xfer h p hp, runLatch_append, List.map_cons, List.map_nil, List.cons_append, List.nil_append]
    rw [strobes_xfer h _ (by simpa using hp)]
    rfl

/-- A byte keeps RS and the data lines still under each strobe (R107). -/
theorem stable_byte {c : Config} (h : c.PinFacts) (p : Port) (hp : p.width = c.portW) (hen : p.bit c.enBit = false)
    (m : Bool) (b : Byte) (es : List Event) :
    stableUnderStrobe c p (byteEvents c m b ++ es) = stableUnderStrobe c (runLatch p (byteEvents c m b)) es := by
  have hx : ∀ (q : Port) (n : Nibble), q.width = c.portW → (runLatch q (xferEvents c m n)).bit c.enBit = false := by
    intro q n hq
    rw [bit_runLatch_xfer h q hq, if_neg (by have := h.enOutside; omega), if_neg h.rsNeEn.symm, if_pos rfl]
  have hwait : ∀ (q : Port) (d : Nat), stableUnderStrobe c q (.wait d :: es) = stableUnderStrobe c q es := by
    intro q d
    simp [stableUnderStrobe, latchAfter]
  by_cases hb : m = false ∧ (b = 0x30 ∨ b = 0x20)
  · simp only [byteEvents, byteNibbles, if_pos hb, List.flatMap_cons, List.flatMap_nil, List.append_nil, List.append_assoc,
      stable_xfer h p hp hen, runLatch_append, List.cons_append, List.nil_append, hwait]
    rfl
  · simp only [byteEvents, byteNibbles, if_neg hb, List.flatMap_cons, List.flatMap_nil, List.append_nil, List.append_assoc,
      stable_xfer h p hp hen, runLatch_append, List.cons_append, List.nil_append]
    rw [stable_xfer h _ (by simpa using hp) (hx p _ hp), hwait]
    rfl

/-- A byte leaves every bit alone that is not a data line, RS or EN (R56). -/
theorem bit_runLatch_byte_other {c : Config} (h : c.PinFacts) (p : Port) (hp : p.width = c.portW) (m : Bool) (b : Byte) {k : Nat}
    (hd : ¬(c.dataShift ≤ k ∧ k < c.dataShift + 4)) (hr : k ≠ c.rsBit) (he : k ≠ c.enBit) :
    (runLatch p (byteEvents c m b)).bit k = p.bit k := by
  rw [bit_runLatch_byte h p hp, lineAfterByte, if_neg hd, if_neg hr, if_neg he]

/-- So does a whole script. -/
theorem bit_runLatch_script_other {c : Config} (h : c.PinFacts) (p : Port) (hp : p.width = c.portW) (items : List ScriptItem)
    {k : Nat} (hd : ¬(c.dataShift ≤ k ∧ k < c.dataShift + 4)) (hr : k ≠ c.rsBit) (he : k ≠ c.enBit) :
    (runLatch p (scriptEvents c items)).bit k = p.bit k := by
  induction items generalizing p with
  | nil => rfl
  | cons i is ih =>
    rw [scriptEvents_cons, runLatch_append, ih _ (by simpa using hp), bit_runLatch_byte_other h p hp _ _ hd hr he]

/-- EN is low after a script, if it was low before (R217). -/
theorem enLow_after_script {c : Config} (h : c.PinFacts) (p : Port) (hp : p.width = c.portW) (hen : p.bit c.enBit = false)
    (items : List ScriptItem) : (runLatch p (scriptEvents c items)).bit c.enBit = false := by
  induction items generalizing p with
  | nil => exact hen
  | cons i is ih =>
    rw [scriptEvents_cons, runLatch_append]
    exact ih _ (by simpa using hp) (enLow_after_byte h p hp _ _)

/-- RS is the mode of the last byte after a script, or as before an empty one (R22, R35(d)). -/
theorem rs_after_script {c : Config} (h : c.PinFacts) (p : Port) (hp : p.width = c.portW) (items : List ScriptItem) :
    (runLatch p (scriptEvents c items)).bit c.rsBit = scriptMode items (p.bit c.rsBit) := by
  induction items generalizing p with
  | nil => rfl
  | cons i is ih =>
    rw [scriptEvents_cons, runLatch_append, ih _ (by simpa using hp), bit_runLatch_byte h p hp, lineAfterByte,
      if_neg (by have := h.rsOutside; omega), if_pos rfl]
    rfl

/-- The strobes of a script, and then those of what follows. -/
theorem strobes_script {c : Config} (h : c.PinFacts) (p : Port) (hp : p.width = c.portW) (items : List ScriptItem)
    (es : List Event) : strobes c p (scriptEvents c items ++ es) =
      scriptStrobes items ++ strobes c (runLatch p (scriptEvents c items)) es := by
  induction items generalizing p with
  | nil => rfl
  | cons i is ih =>
    rw [scriptEvents_cons, List.append_assoc, strobes_byte h p hp, ih _ (by simpa using hp), runLatch_append]
    simp [scriptStrobes]

/-- A script keeps RS and the data lines still under each strobe (R107). -/
theorem stable_script {c : Config} (h : c.PinFacts) (p : Port) (hp : p.width = c.portW) (hen : p.bit c.enBit = false)
    (items : List ScriptItem) (es : List Event) : stableUnderStrobe c p (scriptEvents c items ++ es) =
      stableUnderStrobe c (runLatch p (scriptEvents c items)) es := by
  induction items generalizing p with
  | nil => rfl
  | cons i is ih =>
    rw [scriptEvents_cons, List.append_assoc, stable_byte h p hp hen,
      ih _ (by simpa using hp) (enLow_after_byte h p hp _ _), runLatch_append]

end Sys2Proof.Machine
end

