-- ==== Sys2Proof/Tests/Slice0.lean ====
section
/-! SUPPORT. The model's own tests. Expected values are the spec's (spec/95_test_vectors.md, whose vectors are derived from the
rules by hand); each test names its vector. Then, for every statement of Obligations.lean that has hypotheses, a concrete
state and operands that meet them. -/

open Sys2Proof Sys2Proof.Machine

namespace Sys2Proof.Tests

/-! ### WellFormed: one ill-formed configuration for each check -/

theorem test_default_is_wellformed : Config.default.wf = true := by decide

/-- RS on a data line. -/
theorem test_refuses_shared_pin : ({ Config.default with rsBit := 3 } : Config).wf = false := by decide

/-- ACK on the PIR pin. -/
theorem test_refuses_shared_input : ({ Config.default with ackBit := 7 } : Config).wf = false := by decide

theorem test_refuses_pin_at_port_width : ({ Config.default with ackBit := 32 } : Config).wf = false := by decide

theorem test_refuses_data_field_over_the_top : ({ Config.default with dataShift := 29 } : Config).wf = false := by decide

/-- ROUTE_SHIFT + 7 = PORT_W. -/
theorem test_refuses_route_over_the_top : ({ Config.default with routeShift := 25 } : Config).wf = false := by decide

theorem test_refuses_zero_pulse : ({ Config.default with tPulse := 0 } : Config).wf = false := by decide

theorem test_refuses_data_settle_not_shorter : ({ Config.default with tDataSettle := 3000 } : Config).wf = false := by decide

theorem test_refuses_clear_settle_not_longer : ({ Config.default with tClearSettle := 3000 } : Config).wf = false := by decide

theorem test_refuses_threshold_zero : ({ Config.default with threshold := 0 } : Config).wf = false := by decide

theorem test_refuses_threshold_too_wide : ({ Config.default with threshold := 65536 } : Config).wf = false := by decide

theorem test_refuses_trig_level_too_wide : ({ Config.default with trigLevel := 4096 } : Config).wf = false := by decide

theorem test_refuses_poll_limit_zero : ({ Config.default with pollLimit := some 0 } : Config).wf = false := by decide

/-- The last positions that fit are accepted. -/
theorem test_accepts_the_top_positions :
    ({ Config.default with portW := 9, routeShift := 1, threshold := 65535, pollLimit := some 1 } : Config).wf = true := by decide

/-! ### Decoding: words written out bit by bit from R75 and R77 (V-E1), and illegal words (V-E2) -/

theorem test_decode_lcdInit : decode 0b0000_000000000000_00000000_00000000#32 = .op .lcdInit := by decide

theorem test_decode_lcdCmd : decode 0b0001_000000000000_00000000_00110000#32 = .op (.lcdCmd 0x30) := by decide

theorem test_decode_lcdData : decode 0b0010_000000000000_00000000_01000001#32 = .op (.lcdData 0x41) := by decide

/-- ADC_CFG {4,5}, 1. -/
theorem test_decode_adcCfg : decode 0b0011_000000000000_00000001_00110000#32 = .op (.adcCfg 0x30 1) := by decide

theorem test_decode_adcRead : decode 0b0100_000000000000_00000000_11111111#32 = .op (.adcRead 255) := by decide

theorem test_decode_alertObs :
    decode 0b0101_000000000000_00000000_00000000#32 = .op (.alertObs false)
    ∧ decode 0b0101_000000000000_00000000_00000001#32 = .op (.alertObs true) := by decide

theorem test_decode_alertAck : decode 0b0110_000000000000_00000000_00000000#32 = .op .alertAck := by decide

theorem test_decode_illegal_fields :
    decode 0x00000001#32 = .illegal .unusedArg0 ∧ decode 0x10000128#32 = .illegal .unusedArg1
    ∧ decode 0x10010028#32 = .illegal .reservedBits ∧ decode 0x20FF0041#32 = .illegal .reservedBits
    ∧ decode 0x40000104#32 = .illegal .unusedArg1 ∧ decode 0x50000002#32 = .illegal .unusedArg0
    ∧ decode 0x50000003#32 = .illegal .unusedArg0 ∧ decode 0x60000001#32 = .illegal .unusedArg0 := by decide

theorem test_decode_illegal_opcodes :
    decode 0x70000000#32 = .illegal .reservedOpcode ∧ decode 0xF0000000#32 = .illegal .reservedOpcode
    ∧ decode 0xFFFFFFFF#32 = .illegal .reservedOpcode := by decide

theorem test_encode_adcCfg : encode (.adcCfg 0xFF 255) = 0x3000FFFF#32 := by decide

theorem test_decodeTableWord :
    decodeTableWord 32 0x40000004 = some (.adcRead 4) ∧ decodeTableWord 32 0x70000000 = none := by decide

/-! ### One step of each operation -/

/-- The state after reset of a block with POLL_LIMIT = 3, whose host presents the word `w`. -/
def presenting (c : Config) (w : Nat) : State := (State.resetWith c).withFetchWord 32 w

def limit3 : Config := { Config.default with pollLimit := some 3 }

/-- The end state after a step, or the state before it. -/
def after (s : State) : State :=
  match step s with
  | .next t => t
  | .fault _ => s
  | .refused _ => s

/-- The value of the PORT_A latch. -/
def paValue (s : State) : Nat := s.pa.bits.toNat

/-- The strobe trace since reset. -/
def strobesOf (s : State) : List (Bool × Nibble) := strobes s.cfg (State.resetWith s.cfg).pa s.trace

/-- V-D1, written out in full, and its pin trace. -/
theorem test_lcdCmd_trace :
    let es := (after (presenting limit3 0x10000028)).trace
    es = [ .paClr 0x0F, .paSet 0x02, .paClr 0x10, .paSet 0x20, .wait 25, .paClr 0x20, .wait 100,
      .paClr 0x0F, .paSet 0x08, .paClr 0x10, .paSet 0x20, .wait 25, .paClr 0x20, .wait 100, .wait 3000 ]
    ∧ pinTrace (State.resetWith limit3).pa es =
      [ .level 0x00, .level 0x02, .level 0x02, .level 0x22, .wait 25, .level 0x02, .wait 100,
        .level 0x00, .level 0x08, .level 0x08, .level 0x28, .wait 25, .level 0x08, .wait 100, .wait 3000 ] := by decide +kernel

/-- V-D3: the command 0x30 is one nibble, and its settle is the command settle. -/
theorem test_lcdCmd_single_nibble :
    let t := after (presenting limit3 0x10000030)
    strobesOf t = [(false, 3)] ∧ waitTotal t.trace = 3125 ∧ paValue t = 0x03 := by decide +kernel

/-- V-D5: the character 0x30 is two nibbles. -/
theorem test_lcdData_two_nibbles :
    let t := after (presenting limit3 0x20000030)
    strobesOf t = [(true, 3), (true, 0)] ∧ paValue t = 0x10 ∧ t.rsMode = true := by decide +kernel

/-- V-D11: the pins moved to DATA_SHIFT 4, RS 0, EN 1, BUZZ 2. -/
theorem test_lcdData_other_pins :
    let t := after (presenting { limit3 with dataShift := 4, rsBit := 0, enBit := 1, buzzBit := 2, pirBit := 8, ackBit := 9 } 0x20000041)
    t.trace = [ .paClr 0xF0, .paSet 0x40, .paSet 0x01, .paSet 0x02, .wait 25, .paClr 0x02, .wait 100,
        .paClr 0xF0, .paSet 0x10, .paSet 0x01, .paSet 0x02, .wait 25, .paClr 0x02, .wait 100, .wait 100 ]
    ∧ paValue t = 0x11 := by decide +kernel

/-- V-D9: 91 events, waits of 86500 units, twelve strobes. -/
theorem test_lcdInit :
    let t := after (presenting limit3 0x00000000)
    t.trace.length = 91 ∧ waitTotal t.trace = 86500 ∧ paValue t = 0x01 ∧ t.rsps = [0x0000#16]
    ∧ strobesOf t = [ (false, 3), (false, 3), (false, 3), (false, 2), (false, 2), (false, 8), (false, 0), (false, 0xC),
        (false, 0), (false, 6), (false, 0), (false, 1) ] := by decide +kernel

/-- V-S1: ADC_CFG {4,5}, 1. -/
theorem test_adcCfg :
    let t := after (presenting limit3 0x30000130)
    t.trace = [.pbSet 0x30] ∧ t.pdn = true ∧ t.pb.bits.toNat = 0x30 ∧ t.clkdiv = 1 ∧ t.sel = 0 ∧ t.rsps = [0x0000#16] := by
  decide +kernel

/-- V-S3: a channel outside SUPPORTED_CH = {4,5}. -/
theorem test_adcCfg_unsupported :
    let t := after (presenting { limit3 with supportedCh := 0x30 } 0x30000050)
    t.rsps = [0x2000#16] ∧ t.pdn = false ∧ t.pb.bits.toNat = 0 ∧ t.trace = [] := by decide +kernel

/-- After V-S1, with the converter's answer `a` to the next conversion, the host presenting the word `w`. -/
def configured (a : ConverterAnswer) (w : Nat) : State :=
  { (after (presenting limit3 0x30000130)) with answers := [a], rsps := [] }.withFetchWord 32 w

/-- V-S6: the converter completes with 0x800 before the third poll. -/
theorem test_adcRead :
    let t := after (configured ⟨some 2, 0x800, false⟩ 0x40000004)
    t.rsps = [0x0800#16] ∧ t.sel = 0x10 ∧ t.start = false ∧ t.done = true ∧ t.result = 0x800 ∧ t.conv = none
    ∧ t.seq = .idle ∧ t.answers = [] ∧ t.trace = [.pbSet 0x30] := by decide +kernel

/-- V-S8: the third poll reads 0 at POLL_LIMIT = 3 (the converter would complete one poll later). -/
theorem test_adcRead_timeout :
    let t := after { (configured ⟨some 3, 0x123, true⟩ 0x40000005) with done := true, result := 0x800 }
    t.rsps = [0x1000#16] ∧ t.sel = 0x20 ∧ t.start = false ∧ t.done = false ∧ t.result = 0x800 ∧ t.conv = none := by
  decide +kernel

/-- The state (A, n, 1) of the Alert Machine vectors, the host presenting the word `w`. -/
def armed (n : Count) (w : Nat) : State :=
  { (presenting limit3 w) with alertState := .alert, persistCnt := n, pa := ⟨32, 0x40⟩ }

/-- V-A3b and V-A5: the counter below and at the threshold of 50. -/
theorem test_alertObs_counts_then_disarms :
    (after (armed 7 0x50000000)).persistCnt = 8 ∧ (after (armed 7 0x50000000)).rsps = [0x0001#16]
    ∧ (after (armed 49 0x50000000)).alertState = .quiescent ∧ (after (armed 49 0x50000000)).persistCnt = 0
    ∧ (after (armed 49 0x50000000)).trace = [.paClr 0x40] ∧ (after (armed 49 0x50000000)).rsps = [0x0002#16] := by
  decide +kernel

/-- V-A8, and V-A9: acknowledging in Alert and in Quiescent. -/
theorem test_alertAck :
    (after (armed 17 0x60000000)).alertState = .quiescent ∧ (after (armed 17 0x60000000)).persistCnt = 0
    ∧ (after (armed 17 0x60000000)).trace = [.paClr 0x40] ∧ (after (armed 17 0x60000000)).rsps = [0x0002#16]
    ∧ (after (presenting limit3 0x60000000)).rsps = [0x0000#16] ∧ (after (presenting limit3 0x60000000)).trace = [] := by
  decide +kernel

/-- V-A2; and V-A11, where a script runs before the buzzer. -/
theorem test_alertObs_arms :
    let t := after (presenting limit3 0x50000001)
    let u := after (presenting { limit3 with msgAlert := [.cmd 0x01, .data 0x21] } 0x50000001)
    (t.alertState = .alert ∧ t.persistCnt = 0 ∧ t.trace = [.paSet 0x40] ∧ paValue t = 0x40 ∧ t.rsps = [0x0003#16])
    ∧ u.trace.length = 31 ∧ u.trace.getLast? = some (.paSet 0x40) ∧ paValue u = 0x51 ∧ u.rsMode = true
    ∧ strobesOf u = [(false, 0), (false, 1), (true, 2), (true, 1)] := by decide +kernel

/-- V-A12: the samples on either side of TRIG_LEVEL. -/
theorem test_sample_trigger :
    belowTrigger limit3 3649 = true ∧ belowTrigger limit3 3650 = false
    ∧ belowTrigger { limit3 with trigLevel := 0 } 0 = false := by decide

/-- V-A12: PIR high; the read is an event (R53). -/
theorem test_pin_trigger :
    let t := after { (State.resetWith limit3) with program := [.alertObsPin], pins := [0x80] }
    t.trace = [.paRead 0x80 0x80, .paSet 0x40] ∧ t.rsps = [0x0003#16] ∧ t.pins = [] := by decide +kernel

/-- V-E2: an illegal word is answered ProtocolAssertion, with nothing else changed. -/
theorem test_illegal_word :
    let t := after (presenting limit3 0x50000002)
    t.rsps = [0x3000#16] ∧ t.trace = [] ∧ t.alertState = .quiescent := by decide +kernel

/-! ### A state and operands that meet the hypotheses of each statement -/

theorem witness_EncodeThenDecode : (Instr.adcCfg 0xFF 255).wf = true := rfl

theorem witness_DecodeThenEncode : decode 0x3000FFFF#32 = .op (.adcCfg 0xFF 255) := by decide

/-- The lowest word of each kind of R79. -/
theorem witness_IllegalWordsAnswerProtocolAssertion :
    (∀ w ∈ [0x70000000#32, 0x00010000#32, 0x00000100#32, 0x40000100#32, 0x00000001#32, 0x60000001#32, 0x50000002#32],
      (∃ why, decode w = .illegal why) ∧ (presenting limit3 w.toNat).program = .request w :: [])
    ∧ ∀ w, (presenting limit3 w).cfg.wf = true ∧ (presenting limit3 w).seq = .idle := by
  refine ⟨fun w hw => ?_, fun w => ⟨rfl, rfl⟩⟩
  simp only [List.mem_cons, List.not_mem_nil, or_false] at hw
  rcases hw with rfl | rfl | rfl | rfl | rfl | rfl | rfl <;> exact ⟨⟨_, rfl⟩, rfl⟩

theorem witness_StepRunsTheDecodedOperation :
    (presenting limit3 0x40000004).cfg.wf = true ∧ (presenting limit3 0x40000004).seq = .idle
    ∧ (presenting limit3 0x40000004).program = .request 0x40000004#32 :: []
    ∧ decode 0x40000004#32 = .op (.adcRead 4) := by decide

theorem witness_StepHoldsAnIdleBlock : State.reset.cfg.wf = true ∧ State.reset.seq = .idle ∧ State.reset.program = [] := by decide

theorem witness_MalformedConfigurationIsRefused : (State.resetWith { Config.default with tPulse := 0 }).cfg.wf = false := by decide

/-- A block at the poll of channel 4, after `polls` polls that read 0, with the converter's answer due after `delay` more. -/
def atPoll (c : Config) (polls : Nat) (delay : Option Nat) : State :=
  { (State.resetWith c) with
    pb := ⟨32, 0x30⟩, pdn := true, sel := 0x10, start := true, conv := some 4, seq := .polling polls, answer := ⟨delay, 0x800, true⟩ }

/-- The three ways of a poll: the completion before the very poll that would have been the last; the last poll reading 0; and a
poll that is not the last. -/
theorem witness_PollTakesOneTurnAndAcceptsNothing :
    ∀ q ∈ [(2, some 0), (2, some 1), (1, some 1)],
      let s := atPoll limit3 q.1 q.2
      s.cfg.wf = true ∧ s.seq = .polling q.1 ∧ s.conv = some 4 ∧ s.done = false := by decide

theorem witness_ResetValues : blockBitA limit3 0 = true ∧ blockBitA limit3 6 = true ∧ blockBitB limit3 7 = true := by decide

theorem witness_InvariantAtReset : limit3.wf = true := by decide

/-- The invariant of a state at rest with every register at its reset value. -/
theorem reset_inv : State.reset.Inv where
  cfgWellFormed := by decide
  portsWide := ⟨rfl, rfl⟩
  quiescentCount := fun _ => rfl
  alertCount := fun h => by cases h
  enLow := by decide
  rsAgrees := by decide
  buzzAgrees := by decide
  selRouted := .inl rfl
  idleQuiet := fun _ => ⟨rfl, rfl⟩
  poweredIffRouted := by decide
  pollInFlight := fun _ h => by cases h

/-- The invariant in the middle of an ADC_READ, and in Alert at the last count below the threshold. -/
theorem polling_inv : ({ (atPoll limit3 2 (some 1)) with
    alertState := .alert, persistCnt := 49, pa := ⟨32, 0x40⟩ } : State).Inv where
  cfgWellFormed := by decide
  portsWide := ⟨rfl, rfl⟩
  quiescentCount := fun h => by cases h
  alertCount := fun _ => by decide
  enLow := by decide
  rsAgrees := by decide
  buzzAgrees := by decide
  selRouted := .inr ⟨4, by decide, by decide⟩
  idleQuiet := fun h => by cases h
  poweredIffRouted := by decide
  pollInFlight := fun polls h => by
    obtain rfl : 2 = polls := by simpa [atPoll] using h
    exact ⟨rfl, rfl, rfl, ⟨4, rfl, by decide, by decide⟩, fun n hn => by cases hn; decide⟩

/-- A step runs, so a step keeps something: the hypotheses of every statement about a step that answers a next state. -/
theorem witness_StepKeepsTheInvariant :
    ∃ s t : State, s.Inv ∧ s.seq = .polling 2 ∧ step s = .next t ∧ t.seq = .idle :=
  ⟨_, _, polling_inv, rfl, rfl, by decide +kernel⟩

theorem witness_InvariantStatesNeverStop : State.reset.Inv := reset_inv

theorem witness_StepNeverWritesTheConfiguration : ∃ t, step (presenting limit3 0x30000130) = .next t ∧ t.pdn = true :=
  ⟨_, rfl, by decide +kernel⟩

theorem witness_EventsAccountForTheLatches : ∃ t, step (presenting limit3 0x10000028) = .next t ∧ paValue t = 0x08 :=
  ⟨_, rfl, by decide +kernel⟩

/-- The nearest bits that are not the block's: PIR and the top bit of PORT_A, the bit above the routes on PORT_B. -/
theorem witness_StepChangesOnlyTheBlocksBits :
    (∃ t, step (presenting limit3 0x10000028) = .next t)
    ∧ blockBitA limit3 7 = false ∧ blockBitA limit3 31 = false ∧ blockBitB limit3 8 = false :=
  ⟨⟨_, rfl⟩, by decide⟩

/-- The first and the last bit of each port. -/
theorem witness_PortSetSetsTheMaskedBits :
    let s := State.resetWith limit3
    0 < s.pa.width ∧ 31 < s.pa.width ∧ 0 < s.pb.width ∧ 31 < s.pb.width := by decide

theorem witness_PortClearClearsTheMaskedBits :
    let s := State.resetWith limit3
    0 < s.pa.width ∧ 31 < s.pa.width ∧ 0 < s.pb.width ∧ 31 < s.pb.width := by decide

/-- The last bit inside and the first outside. -/
theorem witness_PortReadReturnsLevels : 31 < (State.resetWith limit3).pa.width ∧ (State.resetWith limit3).pa.width ≤ 32 := by decide

theorem displayReady_reset : (State.resetWith limit3).DisplayReady := ⟨by decide, rfl, by decide⟩

/-- The display's lines as an earlier data write left them, and the buzzer on (V-D12). -/
theorem displayReady_after_data : ({ (State.resetWith limit3) with pa := ⟨32, 0x5D⟩, rsMode := true } : State).DisplayReady :=
  ⟨by decide, rfl, by decide⟩

theorem witness_NibbleTransferIsSevenEvents : ∃ s : State, s.DisplayReady ∧ s.pa.bits ≠ 0 :=
  ⟨_, displayReady_after_data, by decide⟩

theorem witness_ByteTransferUpperNibbleFirst : ∃ s : State, s.DisplayReady ∧ s.rsMode = true :=
  ⟨_, displayReady_after_data, rfl⟩

/-- The ends of the clear class and their neighbours. -/
theorem witness_SettleClasses :
    (∀ b ∈ [0x01#8, 0x03#8], b = 0x01 ∨ b = 0x02 ∨ b = 0x03)
    ∧ ∀ b ∈ [0x00#8, 0x04#8], ¬(b = 0x01 ∨ b = 0x02 ∨ b = 0x03) := by decide

theorem witness_LcdCmdWritesACommandByte : ∃ s : State, s.DisplayReady ∧ s.rsMode = true :=
  ⟨_, displayReady_after_data, rfl⟩

theorem witness_LcdDataWritesACharacter : ∃ s : State, s.DisplayReady ∧ s.rsMode = false :=
  ⟨_, displayReady_reset, rfl⟩

theorem witness_LcdInitRunsTheFixedSequence : ∃ s : State, s.DisplayReady ∧ s.rsMode = true :=
  ⟨_, displayReady_after_data, rfl⟩

theorem witness_LinesHoldStillUnderTheStrobe :
    (∃ s t₁ t₂ t₃ t₄ : State, s.DisplayReady ∧ exec .lcdInit s = .next t₁ ∧ exec (.lcdCmd 0x30) s = .next t₂
      ∧ exec (.lcdData 0x30) s = .next t₃ ∧ exec (.alertObs true) s = .next t₄)
    ∧ ∃ s t : State, s.Inv ∧ step s = .next t :=
  ⟨⟨_, _, _, _, _, displayReady_after_data, rfl, rfl, rfl, rfl⟩, _, _, polling_inv, rfl⟩

theorem witness_DisplayEventsIgnoreThePast :
    (State.resetWith limit3).cfg = ({ (State.resetWith limit3) with pa := ⟨32, 0x5D⟩, rsMode := true } : State).cfg := rfl

theorem witness_TransferAndEventCounts :
    (State.resetWith limit3).cfg.wf = true ∧ (State.resetWith limit3).pa.width = (State.resetWith limit3).cfg.portW := by decide

/-- Both ways of ADC_CFG: the empty set, a set with one unsupported channel, and a set that is supported. -/
theorem witness_AdcCfgPowersAndRoutes :
    let s := State.resetWith { limit3 with supportedCh := 0x30 }
    (∀ chset ∈ [0x00#8, 0x50#8], chset = 0 ∨ ∃ c : Nat, c < 8 ∧ chset.getLsbD c = true ∧ s.cfg.supportedCh.getLsbD c = false)
    ∧ (¬((0x30#8) = 0 ∨ ∃ c : Nat, c < 8 ∧ (0x30#8).getLsbD c = true ∧ s.cfg.supportedCh.getLsbD c = false))
    ∧ s.cfg.wf = true ∧ s.pb.width = s.cfg.portW := by
  refine ⟨fun chset h => ?_, by decide, by decide, rfl⟩
  simp only [List.mem_cons, List.not_mem_nil, or_false] at h
  rcases h with rfl | rfl
  · exact .inl rfl
  · exact .inr ⟨6, by decide⟩

/-- A block with channels 4 and 5 routed and powered, and the converter's next answer after `delay` polls. -/
def routed (c : Config) (delay : Option Nat) : State :=
  { (State.resetWith c) with pb := ⟨32, 0x30⟩, pdn := true, answers := [⟨delay, 0x800, true⟩] }

theorem channelReady (c : Config) (hc : c = limit3 ∨ c = Config.default) (delay : Option Nat) : (routed c delay).ChannelReady 5 := by
  rcases hc with rfl | rfl
  · exact ⟨by decide, (by decide : limit3.supportedCh.getLsbD 5 = true), (by decide : (routed limit3 none).isRouted 5 = true), rfl⟩
  · exact ⟨by decide, (by decide : Config.default.supportedCh.getLsbD 5 = true), (by decide : (routed Config.default none).isRouted 5 = true), rfl⟩

/-- The completion before the first poll and before the last. -/
theorem witness_AdcReadReturnsTheSample :
    ∀ d ∈ [0, 2], (routed limit3 (some d)).ChannelReady 5 ∧ (routed limit3 (some d)).nextAnswer.delay = some d
      ∧ ∀ n, (routed limit3 (some d)).cfg.pollLimit = some n → d < n := by
  intro d hd
  refine ⟨channelReady _ (.inl rfl) _, rfl, fun n hn => ?_⟩
  obtain rfl : 3 = n := by simpa [routed, State.resetWith, limit3] using hn
  revert hd d; decide

/-- The completion just after the last poll, and never. -/
theorem witness_AdcReadTimesOut :
    ∀ delay ∈ [some 3, none], (routed limit3 delay).cfg.wf = true ∧ (routed limit3 delay).ChannelReady 5
      ∧ (routed limit3 delay).cfg.pollLimit = some 3 ∧ ∀ d, (routed limit3 delay).nextAnswer.delay = some d → 3 ≤ d := by
  intro delay hd
  refine ⟨rfl, channelReady _ (.inl rfl) _, rfl, fun d h => ?_⟩
  have h' : delay = some d := h
  simp only [List.mem_cons, List.not_mem_nil, or_false] at hd
  rcases hd with rfl | rfl
  · simp at h'; omega
  · cases h'

/-- The first channel number that is none, an unsupported channel, a channel that is not routed. -/
theorem witness_AdcReadRejectsABadChannel :
    8 ≤ (8#8).toNat
    ∧ (routed { limit3 with supportedCh := 0x10 } none).cfg.supportedCh.getLsbD (5#8).toNat = false
    ∧ (routed limit3 none).pb.bit ((routed limit3 none).cfg.routeShift + (3#8).toNat) = false := by decide

theorem witness_UnboundedPollHangs :
    (routed Config.default none).cfg.wf = true ∧ (routed Config.default none).ChannelReady 5
    ∧ (routed Config.default none).cfg.pollLimit = none ∧ (routed Config.default none).nextAnswer.delay = none :=
  ⟨by decide, channelReady _ (.inr rfl) _, rfl, rfl⟩

theorem witness_FiniteLimitAlwaysAnswers :
    (routed limit3 none).cfg.wf = true ∧ (routed limit3 none).cfg.pollLimit = some 3
    ∧ ∃ t, exec (.adcRead 5) (routed limit3 none) = .next t :=
  ⟨by decide, rfl, _, rfl⟩

theorem witness_AdcReadIgnoresStaleRegisters : (routed limit3 none).ChannelReady 5 := channelReady _ (.inl rfl) _

/-- The first and the last channel; the converter off; no channel selected, and two. -/
theorem witness_TriggerStartsOneConversion :
    (∀ c ∈ [(0 : Channel), 7], ({ (routed limit3 none) with sel := 1#8 <<< c.val } : State).sel = 1#8 <<< c.val)
    ∧ (routed limit3 none).pdn = true ∧ (State.resetWith limit3).pdn = false
    ∧ (∀ sel ∈ [0x00#8, 0x30#8], ∀ c : Channel, sel ≠ 1#8 <<< c.val) := by decide

theorem witness_ResultChangesOnlyAtACompletion :
    ∃ t, exec (.adcRead 5) (routed limit3 (some 0)) = .next t ∧ t.result ≠ (routed limit3 (some 0)).result :=
  ⟨_, rfl, by decide +kernel⟩

theorem witness_OnlyAdcCfgPowersAndRoutes :
    (∃ t, exec (.adcCfg 0x01 200) (routed limit3 none) = .next t) ∧ (routed limit3 none).pdn = true
    ∧ (routed limit3 none).isRouted 4 = true ∧ (∃ t, exec (.adcRead 5) (routed limit3 none) = .next t)
    ∧ ∀ chset div, Instr.adcRead 5 ≠ .adcCfg chset div :=
  ⟨⟨_, rfl⟩, rfl, by decide, ⟨_, rfl⟩, fun _ _ h => by cases h⟩

theorem witness_VoltageScaling : (0 : Sample).toNat < (4095 : Sample).toNat := by decide

theorem witness_TrueObservationArms :
    (State.resetWith limit3).alertState = .quiescent ∧ (State.resetWith limit3).cfg.wf = true
    ∧ (State.resetWith limit3).pa.width = (State.resetWith limit3).cfg.portW := by decide

/-- The largest count that an observation leaves in Alert. -/
theorem witness_ObservationsThatStayInAlert :
    (armed 48 0).alertState = .alert ∧ ((armed 48 0).persistCnt + 1).toNat < (armed 48 0).cfg.threshold := by decide

/-- The count that the next false observation brings to the threshold; and V-A7b, at the top of the counter. -/
theorem witness_PersistentFalseObservationDisarms :
    (armed 49 0).alertState = .alert ∧ (armed 49 0).cfg.threshold ≤ ((armed 49 0).persistCnt + 1).toNat
    ∧ 65535 ≤ (({ (armed 65534 0) with cfg := { limit3 with threshold := 65535 } } : State).persistCnt + 1).toNat := by decide

theorem witness_FalseObservationInQuiescentChangesNothing : (State.resetWith limit3).alertState = .quiescent := rfl

theorem witness_AcknowledgementDisarmsAtOnce :
    (armed 17 0).alertState = .alert ∧ (State.resetWith limit3).alertState = .quiescent := by decide

/-- And the bits next to the block's lines that a script leaves: BUZZ and the top bit. -/
theorem witness_ScriptsAreSentLikeRequests :
    (State.resetWith limit3).DisplayReady
    ∧ ∀ k ∈ [6, 31], ¬(limit3.dataShift ≤ k ∧ k < limit3.dataShift + 4) ∧ k ≠ limit3.rsBit ∧ k ≠ limit3.enBit :=
  ⟨displayReady_reset, by decide⟩

/-- The first and the last k below the threshold. -/
theorem witness_HysteresisOfTheAlertMachine :
    (armed 0 0).cfg.wf = true ∧ (armed 0 0).alertState = .alert ∧ (armed 0 0).persistCnt = 0
    ∧ 0 < (armed 0 0).cfg.threshold ∧ 49 < (armed 0 0).cfg.threshold := by decide

theorem witness_AlertResponsesSayTheStateAndTheTransition :
    (∃ t, Instr.alertObs false = .alertObs t) ∧ (Instr.alertAck = .alertAck) := ⟨⟨_, rfl⟩, rfl⟩

theorem witness_OnlyAlertOperationsDriveTheAlarm :
    (∀ b, Instr.lcdCmd 0xFF ≠ .alertObs b) ∧ Instr.lcdCmd 0xFF ≠ .alertAck ∧ (armed 17 0).cfg.wf = true
    ∧ (∃ t, exec (.lcdCmd 0xFF) (armed 17 0) = .next t) ∧ (armed 17 0).pa.width = (armed 17 0).cfg.portW :=
  ⟨fun _ h => (by cases h), fun h => (by cases h), by decide, ⟨_, rfl⟩, rfl⟩

/-- The empty string, and "0 " of the two bytes that are single nibbles as commands. -/
theorem witness_StringsAreSentByteByByte :
    ∀ cs ∈ [[], [0x30#8, 0x20#8]], ∀ rest ∈ [[], [HostItem.alertAckPin]],
      let s : State := { (State.resetWith limit3) with program := .lcdStr cs :: rest }
      s.cfg.wf = true ∧ s.seq = .idle ∧ s.program = .lcdStr cs :: rest := by decide

theorem witness_PinPseudoInstructionsReadTheirPin :
    ∀ item ∈ [HostItem.alertObsPin, .alertAckPin],
      let s : State := { (State.resetWith limit3) with program := [item] }
      s.cfg.wf = true ∧ s.pa.width = s.cfg.portW ∧ s.seq = .idle ∧ s.program = item :: [] := by decide

/-- The three clauses: the read; the observation of a sample at TRIG_LEVEL; a response that is an error. -/
theorem witness_SamplePseudoInstructionComparesStrictly :
    ({ (State.resetWith limit3) with program := [.alertObsAdc 4] } : State).program = .alertObsAdc 4 :: []
    ∧ ({ (State.resetWith limit3) with program := [.alertObsOfSample], rsps := [0x0E42#16] } : State).rsps
        = [] ++ [responseWord .ok 3650]
    ∧ ({ (State.resetWith limit3) with program := [.alertObsOfSample], rsps := [0x1000#16] } : State).rsps
        = [] ++ [responseWord .samplerTimeout 0]
    ∧ Status.samplerTimeout ≠ .ok
    ∧ (State.resetWith limit3).cfg.wf = true ∧ (State.resetWith limit3).seq = .idle := by decide

/-- One of the five operations, in a state in which it has an effect: Alert with the counter one short of the threshold. -/
theorem witness_DisplayAndAlertOperationsAnswerOk :
    (∃ b, Instr.alertObs false = .alertObs b)
    ∧ (∃ t, exec (.alertObs false) { (State.resetWith limit3) with alertState := .alert, persistCnt := 49 } = .next t) :=
  ⟨⟨_, rfl⟩, ⟨_, rfl⟩⟩

/-- Both commands, in a state at reset and in one with every line of PORT_A high, EN among them. -/
theorem witness_BusWidthCommandsAreNeverSplit :
    ∀ p ∈ [Port.mk 32 0, Port.mk 32 0xFFFFFFFF],
      let s : State := { (State.resetWith limit3) with pa := p }
      ((0x30 : Byte) = 0x30 ∨ (0x30 : Byte) = 0x20) ∧ ((0x20 : Byte) = 0x30 ∨ (0x20 : Byte) = 0x20)
      ∧ s.cfg.wf = true ∧ s.pa.width = s.cfg.portW := by decide

end Sys2Proof.Tests
end

section
/-! PROOFS. What a step of an idle block does (spec/00_scope.md R7, R10, R15): it refuses a malformed configuration, runs the
operation that is presented, and otherwise holds its state. -/

namespace Sys2Proof

theorem distinct_iff_nodup (l : List Nat) : distinct l = true ↔ l.Nodup := by
  induction l with
  | nil => simp [distinct]
  | cons x xs ih =>
    have hx : xs.all (fun y => x != y) = true ↔ x ∉ xs := by
      simp only [List.all_eq_true, bne_iff_ne]
      exact List.forall_mem_ne
    rw [distinct, Bool.and_eq_true, hx, ih, List.nodup_cons]

theorem Config.pollLimitPositive_iff (c : Config) :
    c.pollLimitPositive = true ↔ ∀ n, c.pollLimit = some n → 1 ≤ n := by
  unfold Config.pollLimitPositive
  split
  next h => simp [h]
  next n h => simp [h]

/-- R15, clause by clause. -/
theorem Config.wf_iff (c : Config) : c.wf = true ↔
    c.pinPositions.Nodup ∧ (∀ p ∈ c.pinPositions, p < c.portW)
    ∧ c.routeShift + 7 < c.portW ∧ 1 ≤ c.tPulse ∧ c.tDataSettle < c.tCmdSettle ∧ c.tCmdSettle < c.tClearSettle
    ∧ 1 ≤ c.threshold ∧ c.threshold ≤ 65535 ∧ c.trigLevel ≤ 4095 ∧ (∀ n, c.pollLimit = some n → 1 ≤ n) := by
  simp only [Config.wf, Bool.and_eq_true, Config.pinsDistinct, distinct_iff_nodup, Config.pinsFit, List.all_eq_true,
    decide_eq_true_eq, Config.routesFit, Config.pulseNonzero, Config.settlesOrdered, Config.thresholdInRange,
    Config.trigLevelInRange, Config.pollLimitPositive_iff, and_assoc]

end Sys2Proof

namespace Sys2Proof.Machine

/-- The request item of a program is presented to the block (R89). -/
theorem issue_request_of_decode {w : Request} {i : Instr} (h : decode w = .op i) (rest : List HostItem) (s : State) :
    issue (.request w) rest s = exec i { s with program := rest } := by
  simp only [issue, present, h]

/-- An idle block with nothing presented (R10, R201). -/
theorem step_holds {s : State} (hw : s.cfg.wf = true) (hq : s.seq = .idle) (hp : s.program = []) : step s = .next s := by
  unfold step advance
  rw [if_pos hw, hq, hp]

/-- A malformed configuration is refused (R15). -/
theorem step_refuses {s : State} (hw : s.cfg.wf = false) : step s = .refused .malformedConfig := by
  simp [step, hw]

/-- Settles O7: the step issues the request word, and the word is run as the operation it decodes to. -/
theorem stepRunsTheDecodedOperation : Obligations.StepRunsTheDecodedOperation := by
  intro s w rest i hw hq hp hd
  rw [step_issues hw hq hp, issue_request_of_decode hd]

/-- Settles O8: the idle branch of the step, with an empty program. -/
theorem stepHoldsAnIdleBlock : Obligations.StepHoldsAnIdleBlock :=
  fun _ hw hq hp => step_holds hw hq hp

/-- Settles O9: well-formedness clause by clause, and the step's refusal of any other configuration. -/
theorem malformedConfigurationIsRefused : Obligations.MalformedConfigurationIsRefused :=
  ⟨Config.wf_iff, fun _ hw => step_refuses hw⟩

end Sys2Proof.Machine
end

section
/-! PROOFS. The poll that does not end (spec/60_exceptions.md R174): each turn leaves everything but the count of the polls. -/

namespace Sys2Proof.Machine

/-- A ready channel passes the check of ADC_READ's step 1 (R126). -/
theorem State.ChannelReady.badChannel_eq_false {s : State} {ch : Byte} (h : s.ChannelReady ch) : badChannel s ch = false := by
  simp [badChannel, h.below, h.supported, h.routed]

/-- `k` steps of an unbounded poll of a converter that never completes are `k` more polls and nothing else (R133, R174). -/
theorem run_polling_never_completes {s : State} {c : Channel} {p : Nat} (hw : s.cfg.wf = true) (hq : s.seq = .polling p)
    (hc : s.conv = some c) (hd : s.done = false) (ha : s.answer.delay = none) (hl : s.cfg.pollLimit = none) (k : Nat) :
    Host.Core.run Sys2Proof.core k s = .next { s with seq := .polling (p + k) } := by
  induction k generalizing s p with
  | zero => rw [Nat.add_zero, ← hq]; rfl
  | succ k ih =>
    have hstep : step s = .next { s with seq := .polling (p + 1) } := by
      rw [step_polls hw hq, pollOnce_never hc hd ha (by simp [hl])]
    rw [run_succ hstep, ih (s := { s with seq := .polling (p + 1) }) hw rfl hc hd ha hl, Nat.add_assoc, Nat.add_comm 1 k]

/-- ADC_READ of a ready channel, with no limit and a converter that never completes, triggers the conversion and stays at the
poll after its first turn (R126, R174). -/
theorem execAdcRead_stays_polling {s : State} {ch : Byte} {c : Channel} (hc : c.val = ch.toNat) (hr : s.ChannelReady ch)
    (hl : s.cfg.pollLimit = none) (ha : s.nextAnswer.delay = none) :
    execAdcRead ch s = .next { triggered s ch c with seq := .polling 1 } := by
  rw [execAdcRead_eq hc hr.badChannel_eq_false hr.powered, hl, ha]
  simp only [pollTurns, pollLoop]
  rw [pollOnce_never (c := c) rfl rfl (by simpa [triggered] using ha) (by simp [triggered, hl])]

/-- Settles O35: the first turn leaves the block at the poll, and every further step is one more turn that reads 0. -/
theorem unboundedPollHangs : Obligations.UnboundedPollHangs := by
  intro ch s hw hr hl ha
  obtain ⟨c, hc⟩ : ∃ c : Channel, c.val = ch.toNat := ⟨⟨ch.toNat, hr.below⟩, rfl⟩
  refine ⟨{ triggered s ch c with seq := .polling 1 }, execAdcRead_stays_polling hc hr hl ha, congrArg oneHot hc, rfl,
    by simp [triggered], fun k => ?_⟩
  refine ⟨{ triggered s ch c with seq := .polling (1 + k) }, ?_, ?_⟩
  · exact run_polling_never_completes (s := { triggered s ch c with seq := .polling 1 })
      (by simpa [triggered] using hw) rfl rfl rfl (by simpa [triggered] using ha) (by simpa [triggered] using hl) k
  · simp [triggered, Nat.add_comm]

end Sys2Proof.Machine
end

section
/-! PROOFS. The call trace accounts for both latches (spec/00_scope.md R8, spec/20_memory.md R66): shown for what every
operation and every step can do, as Laws/Exec.lean and Laws/Step.lean list it. -/

namespace Sys2Proof.Machine

/-- The trace of `t` is that of `s` and then some new events, and both latches are what these events make of them. -/
def EventsAccount (s t : State) : Prop :=
  ∃ es : List Event, t.trace = s.trace ++ es ∧ t.pa = es.foldl latchAfter s.pa ∧ t.pb = es.foldl latchBAfter s.pb

theorem EventsAccount.of_unchanged {s t : State} (ht : t.trace = s.trace) (ha : t.pa = s.pa) (hb : t.pb = s.pb) :
    EventsAccount s t :=
  ⟨[], by simpa using ht, ha, hb⟩

theorem EventsAccount.trans {s t u : State} (h₁ : EventsAccount s t) (h₂ : EventsAccount t u) : EventsAccount s u := by
  obtain ⟨es, ht, ha, hb⟩ := h₁
  obtain ⟨fs, ht', ha', hb'⟩ := h₂
  exact ⟨es ++ fs, by rw [ht', ht, List.append_assoc], by rw [ha', ha, List.foldl_append],
    by rw [hb', hb, List.foldl_append]⟩

/-! ### Events that leave a latch -/

@[simp] theorem runLatch_waits (p : Port) (ds : List Nat) : runLatch p (ds.map .wait) = p := by
  rw [runLatch, List.foldl_map]
  exact List.foldl_fixed ds

@[simp] theorem foldl_latchBAfter_waits (p : Port) (ds : List Nat) : (ds.map .wait).foldl latchBAfter p = p := by
  rw [List.foldl_map]
  exact List.foldl_fixed ds

/-- A nibble transfer drives no line of PORT_B (R100). -/
@[simp] theorem foldl_latchBAfter_xferEvents (p : Port) (c : Config) (m : Bool) (n : Nibble) :
    (xferEvents c m n).foldl latchBAfter p = p := by
  cases m <;> rfl

@[simp] theorem foldl_latchBAfter_byteEvents (p : Port) (c : Config) (m : Bool) (b : Byte) :
    (byteEvents c m b).foldl latchBAfter p = p := by
  unfold byteEvents byteNibbles
  split <;> simp [latchBAfter]

@[simp] theorem foldl_latchBAfter_scriptEvents (p : Port) (c : Config) (items : List ScriptItem) :
    (scriptEvents c items).foldl latchBAfter p = p := by
  induction items with
  | nil => rfl
  | cons i is ih => rw [scriptEvents_cons, List.foldl_append, foldl_latchBAfter_byteEvents, ih]

/-! ### Operations -/

theorem Answered.eventsAccount {s t : State} (h : Answered s t) : EventsAccount s t := by
  obtain ⟨n, r, rfl, -⟩ := h
  exact .of_unchanged rfl rfl rfl

theorem Displayed.eventsAccount {s t : State} (h : Displayed s t) : EventsAccount s t := by
  obtain ⟨waits, items, l1, l2, l3, l4, d, r, rfl⟩ := h
  refine ⟨waits.map .wait ++ scriptEvents s.cfg items, rfl, ?_, ?_⟩
  · change runLatch s.pa _ = runLatch s.pa _
    rw [runLatch_append, runLatch_waits]
  · rw [List.foldl_append, foldl_latchBAfter_waits, foldl_latchBAfter_scriptEvents]

theorem Configured.eventsAccount {s t : State} (h : Configured s t) : EventsAccount s t := by
  obtain ⟨chset, div, r, -, rfl⟩ := h
  exact ⟨[.pbSet (routeMask s.cfg chset)], rfl, rfl, rfl⟩

theorem Sampled.eventsAccount {s t : State} (h : Sampled s t) : EventsAccount s t := by
  obtain ⟨ch, c, -, -, -, ⟨a, q, rfl⟩ | ⟨a, q, rfl⟩ | ⟨-, k, rfl⟩⟩ := h
  · apply EventsAccount.of_unchanged <;> simp [finishRead, triggered]
  · apply EventsAccount.of_unchanged <;> simp [timeoutRead, triggered]
  · apply EventsAccount.of_unchanged <;> simp [triggered]

theorem Transitioned.eventsAccount {s t : State} (h : Transitioned s t) : EventsAccount s t := by
  obtain ⟨a, items, l1, l2, l3, l4, d, r, rfl⟩ := h
  refine ⟨_, rfl, ?_, ?_⟩
  · change _ = runLatch s.pa _
    rw [runLatch_append]
    cases a <;> rfl
  · rw [List.foldl_append, foldl_latchBAfter_scriptEvents]
    cases a <;> rfl

theorem exec_eventsAccount {i : Instr} {s t : State} (h : exec i s = .next t) : EventsAccount s t := by
  rcases exec_cases h with h | h | h | h | h
  · exact h.eventsAccount
  · exact h.eventsAccount
  · exact h.eventsAccount
  · exact h.eventsAccount
  · exact h.eventsAccount

/-! ### Steps -/

theorem pollOnce_eventsAccount (s : State) (p : Nat) : EventsAccount s (pollOnce s p) := by
  rcases pollOnce_cases s p with ⟨u, rfl | rfl | ⟨a, rfl⟩, hp, -⟩ | ⟨a, -, hp⟩ | ⟨a, -, hp⟩
  all_goals
    rw [hp]
    exact .of_unchanged rfl rfl rfl

theorem hostMove_eventsAccount (s : State) (p : List HostItem) (m : Option Nat) : EventsAccount s (hostMove s p m) := by
  cases m with
  | none => exact .of_unchanged rfl rfl rfl
  | some m =>
    refine ⟨[.paRead m (({ s with program := p } : State).paReadValue m)], ?_, ?_, ?_⟩ <;>
      simp [hostMove, latchAfter, latchBAfter]

/-- Settles O16, along everything a step can do: a turn of a poll writes neither latch nor trace, a move of the host adds at
most one read, and an operation accounts for its own events. -/
theorem eventsAccountForTheLatches : Obligations.EventsAccountForTheLatches := by
  intro s t h
  obtain ⟨-, ⟨polls, -, rfl⟩ | ⟨-, p, m, rfl | rfl | ⟨i, hi⟩⟩⟩ := step_cases h
  · exact pollOnce_eventsAccount s polls
  · exact hostMove_eventsAccount s p m
  · exact (hostMove_eventsAccount s p m).trans (.of_unchanged rfl rfl rfl)
  · exact (hostMove_eventsAccount s p m).trans (exec_eventsAccount hi)

end Sys2Proof.Machine
end

section
/-! PROOFS. The invariant of spec/10_state.md R35 in two independent parts, and the rules by which an update keeps each: the
display lines with the Alert Machine that drives the buzzer, and the sampler with its routing. -/

namespace Sys2Proof.Machine

/-- The clauses of the invariant on PORT_A, `rs_mode` and the Alert Machine (R35(a) to (e)). -/
structure LinesInv (s : State) : Prop where
  cfgWellFormed : s.cfg.wf = true
  paWide : s.pa.width = s.cfg.portW
  quiescentCount : s.alertState = .quiescent → s.persistCnt = 0
  alertCount : s.alertState = .alert → s.persistCnt.toNat < s.cfg.threshold
  enLow : s.pa.bit s.cfg.enBit = false
  rsAgrees : s.pa.bit s.cfg.rsBit = s.rsMode
  buzzAgrees : s.pa.bit s.cfg.buzzBit = s.alertState.bit

/-- The clauses of the invariant on PORT_B, the sampler's registers and the poll (R35(f) to (i)). -/
structure SamplerInv (s : State) : Prop where
  pbWide : s.pb.width = s.cfg.portW
  selRouted : s.sel = 0 ∨ ∃ c : Channel, s.sel = oneHot c.val ∧ s.isRouted c.val = true
  idleQuiet : s.seq = .idle → s.start = false ∧ s.conv = none
  poweredIffRouted : s.pdn = true ↔ ∃ c : Channel, s.isRouted c.val = true
  pollInFlight : ∀ polls, s.seq = .polling polls →
    s.start = true ∧ s.done = false ∧ s.pdn = true
      ∧ (∃ c : Channel, s.conv = some c ∧ s.sel = oneHot c.val ∧ s.isRouted c.val = true)
      ∧ (∀ n, s.cfg.pollLimit = some n → polls < n)

theorem State.inv_iff (s : State) : s.Inv ↔ LinesInv s ∧ SamplerInv s := by
  constructor
  · rintro ⟨hw, ⟨ha, hb⟩, hq, hc, he, hr, hz, hs, hi, hp, hf⟩
    exact ⟨⟨hw, ha, hq, hc, he, hr, hz⟩, ⟨hb, hs, hi, hp, hf⟩⟩
  · rintro ⟨⟨hw, ha, hq, hc, he, hr, hz⟩, ⟨hb, hs, hi, hp, hf⟩⟩
    exact ⟨hw, ⟨ha, hb⟩, hq, hc, he, hr, hz, hs, hi, hp, hf⟩

/-! ### The lines -/

theorem LinesInv.congr {s t : State} (h : LinesInv s) (hc : t.cfg = s.cfg) (hd : SameDisplay s t) (ha : SameAlert s t) :
    LinesInv t := by
  obtain ⟨hrs, hpa⟩ := hd
  obtain ⟨hst, hcnt⟩ := ha
  obtain ⟨hw, hwide, hq, hal, he, hr, hz⟩ := h
  constructor <;> simp only [hc, hrs, hpa, hst, hcnt] <;> assumption

/-- Switching the buzzer line on in Alert and off in Quiescent writes that line alone (R156). -/
theorem bit_driveBuzzer {c : Config} {p : Port} (hb : c.buzzBit < p.width) (a : AlertState) (k : Nat) :
    (if a = .alert then p.set (buzzMask c) else p.clr (buzzMask c)).bit k = if k = c.buzzBit then a.bit else p.bit k := by
  by_cases hk : k = c.buzzBit
  · subst hk
    cases a <;> simp [Port.bit_set, Port.bit_clr, testBit_buzzMask, AlertState.bit, hb]
  · cases a <;> simp [Port.bit_set, Port.bit_clr, testBit_buzzMask, hk]

/-- A display script leaves the buzzer line (R156, R56). -/
theorem buzz_after_script {c : Config} (h : c.PinFacts) (p : Port) (hp : p.width = c.portW) (items : List ScriptItem) :
    (runLatch p (scriptEvents c items)).bit c.buzzBit = p.bit c.buzzBit := by
  have := h.buzzOutside
  exact bit_runLatch_script_other h p hp items (by omega) h.rsNeBuzz.symm h.enNeBuzz.symm

/-- A display script leaves EN low and RS at the mode that `rs_mode` records (R217, R22). -/
theorem LinesInv.after_script {s : State} (h : LinesInv s) (items : List ScriptItem) :
    LinesInv { s with rsMode := scriptMode items s.rsMode, pa := runLatch s.pa (scriptEvents s.cfg items) } :=
  have hpins := Config.pinFacts_of_wf h.cfgWellFormed
  { cfgWellFormed := h.cfgWellFormed
    paWide := (runLatch_width ..).trans h.paWide
    quiescentCount := h.quiescentCount
    alertCount := h.alertCount
    enLow := enLow_after_script hpins _ h.paWide h.enLow items
    rsAgrees := (rs_after_script hpins _ h.paWide items).trans (congrArg _ h.rsAgrees)
    buzzAgrees := (buzz_after_script hpins _ h.paWide items).trans h.buzzAgrees }

/-- Entering a state of the Alert Machine resets the counter and switches the buzzer to match (R152, R154, R158). -/
theorem LinesInv.enter {s : State} (h : LinesInv s) (a : AlertState) :
    LinesInv { s with
      alertState := a, persistCnt := 0
      pa := if a = .alert then s.pa.set (buzzMask s.cfg) else s.pa.clr (buzzMask s.cfg) } :=
  have hpins := Config.pinFacts_of_wf h.cfgWellFormed
  have hbit := bit_driveBuzzer (c := s.cfg) (p := s.pa) (by rw [h.paWide]; exact hpins.buzzFits) a
  { cfgWellFormed := h.cfgWellFormed
    paWide := by cases a <;> exact h.paWide
    quiescentCount := fun _ => rfl
    alertCount := fun _ => (Config.threshold_of_wf h.cfgWellFormed).1
    enLow := ((hbit _).trans (if_neg hpins.enNeBuzz)).trans h.enLow
    rsAgrees := ((hbit _).trans (if_neg hpins.rsNeBuzz)).trans h.rsAgrees
    buzzAgrees := (hbit _).trans (if_pos rfl) }

/-! ### The sampler -/

theorem isRouted_congr {s t : State} (hc : t.cfg = s.cfg) (hb : t.pb = s.pb) (c : Nat) : t.isRouted c = s.isRouted c := by
  rw [State.isRouted, State.isRouted, hc, hb]

/-- What keeps the routing, the power and SEL, and starts or ends no conversion, keeps the sampler's part. -/
theorem SamplerInv.congr {s t : State} (h : SamplerInv s) (hc : t.cfg = s.cfg) (hs : SameSampler s t) (hq : t.seq = s.seq) :
    SamplerInv t := by
  obtain ⟨hpb, hsel, -, hpdn, hstart, -, hdone, hconv⟩ := hs
  have hrt := isRouted_congr hc hpb
  obtain ⟨hw, hr, hi, hp, hf⟩ := h
  constructor <;> simp only [hc, hpb, hsel, hpdn, hstart, hdone, hconv, hq, hrt] <;> assumption

/-- A sampler at rest: the conversion is over and the routing is as before (R35(g), R140). -/
theorem SamplerInv.at_rest {s t : State} (h : SamplerInv s) (hc : t.cfg = s.cfg) (hb : t.pb = s.pb) (hp : t.pdn = s.pdn)
    (hsel : t.sel = 0 ∨ ∃ c : Channel, t.sel = oneHot c.val ∧ s.isRouted c.val = true)
    (hstart : t.start = false) (hconv : t.conv = none) (hq : t.seq = .idle) : SamplerInv t where
  pbWide := by rw [hb, hc]; exact h.pbWide
  selRouted := by simpa only [isRouted_congr hc hb] using hsel
  idleQuiet := fun _ => ⟨hstart, hconv⟩
  poweredIffRouted := by simpa only [isRouted_congr hc hb, hp] using h.poweredIffRouted
  pollInFlight := fun polls hpoll => by rw [hq] at hpoll; cases hpoll

/-- A sampler at the poll of a routed channel, below the limit, with the routing as before (R126, R133, R137). -/
theorem SamplerInv.at_poll {s t : State} {c : Channel} {polls : Nat} (h : SamplerInv s) (hc : t.cfg = s.cfg)
    (hb : t.pb = s.pb) (hp : t.pdn = s.pdn) (hr : s.isRouted c.val = true) (hsel : t.sel = oneHot c.val)
    (hstart : t.start = true) (hdone : t.done = false) (hconv : t.conv = some c) (hq : t.seq = .polling polls)
    (hl : ∀ n, s.cfg.pollLimit = some n → polls < n) : SamplerInv t where
  pbWide := by rw [hb, hc]; exact h.pbWide
  selRouted := .inr ⟨c, hsel, by rwa [isRouted_congr hc hb]⟩
  idleQuiet := fun hidle => by rw [hq] at hidle; cases hidle
  poweredIffRouted := by simpa only [isRouted_congr hc hb, hp] using h.poweredIffRouted
  pollInFlight := fun p hpoll => by
    obtain rfl : polls = p := Seq.polling.inj (hq.symm.trans hpoll)
    exact ⟨hstart, hdone, hp.trans (h.poweredIffRouted.2 ⟨c, hr⟩), ⟨c, hconv, hsel, by rwa [isRouted_congr hc hb]⟩,
      by rwa [hc]⟩

/-- Setting routing bits unroutes no channel (R125). -/
theorem isRouted_of_pbSet {s t : State} {m c : Nat} (hc : t.cfg = s.cfg) (hb : t.pb = s.pb.set m)
    (h : s.isRouted c = true) : t.isRouted c = true := by
  rw [State.isRouted, Bool.and_eq_true] at h ⊢
  obtain ⟨hlt, hbit⟩ := h
  exact ⟨hlt, by rw [hc, hb, Port.bit_set, hbit, Bool.true_or]⟩

/-- Setting the routing bits of a set routes its channels (R25, R125). -/
theorem isRouted_of_mem_chset {s t : State} {chset : Byte} {c : Channel} (hc : t.cfg = s.cfg)
    (hb : t.pb = s.pb.set (routeMask s.cfg chset)) (hfits : s.cfg.routeShift + 7 < s.pb.width)
    (hmem : chset.getLsbD c.val = true) : t.isRouted c.val = true := by
  have hlt := c.isLt
  have hpos : s.cfg.routeShift + c.val < s.pb.width := by omega
  simp [State.isRouted, hc, hb, Port.bit_set, testBit_routeMask, hmem, hlt, hpos]

/-- A set that ADC_CFG accepts has a member (R125 step 1). -/
theorem exists_mem_of_not_badChannelSet {c : Config} {chset : Byte} (h : badChannelSet c chset = false) :
    ∃ ch : Channel, chset.getLsbD ch.val = true := by
  rw [badChannelSet, Bool.or_eq_false_iff, beq_eq_false_iff_ne] at h
  by_contra hno
  refine h.1 (BitVec.eq_of_getLsbD_eq fun i hi => ?_)
  simpa using fun hbit => hno ⟨⟨i, hi⟩, hbit⟩

end Sys2Proof.Machine
end

section
/-! PROOFS. What every operation and every step leaves unchanged of the configuration and, for a sampling operation, of the lines
(spec/10_state.md R33). -/

namespace Sys2Proof.Machine

/-- ADC_READ drives no line and changes no routing (R126, R191). -/
theorem Sampled.keeps {s t : State} (h : Sampled s t) :
    t.cfg = s.cfg ∧ SameDisplay s t ∧ SameAlert s t ∧ t.pb = s.pb ∧ t.pdn = s.pdn := by
  obtain ⟨ch, c, -, -, -, ⟨a, q, rfl⟩ | ⟨a, q, rfl⟩ | ⟨-, k, rfl⟩⟩ := h
  · refine ⟨?_, ⟨?_, ?_⟩, ⟨?_, ?_⟩, ?_, ?_⟩ <;> simp [finishRead, triggered]
  · refine ⟨?_, ⟨?_, ?_⟩, ⟨?_, ?_⟩, ?_, ?_⟩ <;> simp [timeoutRead, triggered]
  · refine ⟨?_, ⟨?_, ?_⟩, ⟨?_, ?_⟩, ?_, ?_⟩ <;> simp [triggered]

/-- No operation writes the configuration (R33). -/
theorem exec_cfg {i : Instr} {s t : State} (h : exec i s = .next t) : t.cfg = s.cfg := by
  rcases exec_cases h with ⟨_, _, rfl, -⟩ | ⟨_, _, _, _, _, _, _, _, rfl⟩ | ⟨_, _, _, -, rfl⟩ | hs | ⟨_, _, _, _, _, _, _, _, rfl⟩
  · rfl
  · rfl
  · rfl
  · exact hs.keeps.1
  · rfl

/-- A turn of the poll drives no line and changes no routing, and keeps SEL (R126, R133). -/
theorem pollOnce_keeps (s : State) (p : Nat) :
    let t := pollOnce s p
    t.cfg = s.cfg ∧ SameDisplay s t ∧ SameAlert s t ∧ t.pb = s.pb ∧ t.pdn = s.pdn ∧ t.sel = s.sel := by
  rcases pollOnce_cases s p with ⟨u, rfl | rfl | ⟨a, rfl⟩, hp, -⟩ | ⟨a, -, hp⟩ | ⟨a, -, hp⟩
  all_goals
    rw [hp]
    exact ⟨rfl, ⟨rfl, rfl⟩, ⟨rfl, rfl⟩, rfl, rfl, rfl⟩

theorem hostMove_cfg (s : State) (p : List HostItem) (m : Option Nat) : (hostMove s p m).cfg = s.cfg := by
  cases m <;> simp [hostMove]

theorem hostMove_seq (s : State) (p : List HostItem) (m : Option Nat) : (hostMove s p m).seq = s.seq := by
  cases m <;> simp [hostMove]

/-- Settles O15, along everything a step can do. -/
theorem stepNeverWritesTheConfiguration : Obligations.StepNeverWritesTheConfiguration := by
  intro s t h
  obtain ⟨-, ⟨polls, -, rfl⟩ | ⟨-, p, m, rfl | rfl | ⟨i, hi⟩⟩⟩ := step_cases h
  · exact (pollOnce_keeps s polls).1
  · exact hostMove_cfg s p m
  · exact hostMove_cfg s p m
  · exact (exec_cfg hi).trans (hostMove_cfg s p m)

end Sys2Proof.Machine
end

section
/-! PROOFS. Every operation, every turn of a poll and so every step keeps the invariant (spec/10_state.md R35). -/

namespace Sys2Proof.Machine

/-- An answer without a line driven: the counter alone may have changed, and in Alert stays below the threshold. -/
theorem Answered.keeps_inv {s t : State} (h : Answered s t) (hinv : s.Inv) (hq : s.seq = .idle) : t.Inv := by
  obtain ⟨hl, hs⟩ := (State.inv_iff s).1 hinv
  obtain ⟨n, r, rfl, hn⟩ := h
  refine (State.inv_iff _).2 ⟨?_, hs.congr rfl ⟨rfl, rfl, rfl, rfl, rfl, rfl, rfl, rfl⟩ hq.symm⟩
  rcases hn with rfl | ⟨hal, hn⟩
  · exact hl.congr rfl ⟨rfl, rfl⟩ ⟨rfl, rfl⟩
  · have hthr := (Config.threshold_of_wf hl.cfgWellFormed).1
    exact
      { hl with
        quiescentCount := fun hqu => by rw [hal] at hqu; cases hqu
        alertCount := fun _ => by
          rcases hn with rfl | hn
          · exact hthr
          · exact hn }

theorem Displayed.keeps_inv {s t : State} (h : Displayed s t) (hinv : s.Inv) (hq : s.seq = .idle) : t.Inv := by
  obtain ⟨hl, hs⟩ := (State.inv_iff s).1 hinv
  obtain ⟨waits, items, l1, l2, l3, l4, d, r, rfl⟩ := h
  exact (State.inv_iff _).2 ⟨(hl.after_script items).congr rfl ⟨rfl, rfl⟩ ⟨rfl, rfl⟩,
    hs.congr rfl ⟨rfl, rfl, rfl, rfl, rfl, rfl, rfl, rfl⟩ hq.symm⟩

/-- An accepted ADC_CFG powers the converter and routes at least one channel (R35(h), (i)). -/
theorem Configured.keeps_inv {s t : State} (h : Configured s t) (hinv : s.Inv) (hq : s.seq = .idle) : t.Inv := by
  obtain ⟨hl, hs⟩ := (State.inv_iff s).1 hinv
  obtain ⟨chset, div, r, hset, rfl⟩ := h
  refine (State.inv_iff _).2 ⟨hl.congr rfl ⟨rfl, rfl⟩ ⟨rfl, rfl⟩, ?_⟩
  have hfits : s.cfg.routeShift + 7 < s.pb.width := by
    rw [hs.pbWide]; exact (Config.pinFacts_of_wf hl.cfgWellFormed).routesFit
  obtain ⟨ch, hch⟩ := exists_mem_of_not_badChannelSet hset
  exact
    { pbWide := hs.pbWide
      selRouted := hs.selRouted.imp_right fun ⟨c, hsel, hr⟩ => ⟨c, hsel, isRouted_of_pbSet (s := s) rfl rfl hr⟩
      idleQuiet := fun _ => hs.idleQuiet hq
      poweredIffRouted := iff_of_true rfl ⟨ch, isRouted_of_mem_chset (s := s) rfl rfl hfits hch⟩
      pollInFlight := fun _ hpoll => by cases hpoll }

/-- ADC_READ selects a routed channel, and ends at rest or, with no limit, at its poll (R35(f), (g)). -/
theorem Sampled.keeps_inv {s t : State} (h : Sampled s t) (hinv : s.Inv) : t.Inv := by
  obtain ⟨hl, hs⟩ := (State.inv_iff s).1 hinv
  obtain ⟨hc, hd, ha, hb, hp⟩ := h.keeps
  refine (State.inv_iff _).2 ⟨hl.congr hc hd ha, ?_⟩
  obtain ⟨ch, c, -, hr, -, ⟨a, q, rfl⟩ | ⟨a, q, rfl⟩ | ⟨hlim, k, rfl⟩⟩ := h
  · exact hs.at_rest hc hb hp (.inr ⟨c, rfl, hr⟩) rfl rfl rfl
  · exact hs.at_rest hc hb hp (.inr ⟨c, rfl, hr⟩) rfl rfl rfl
  · refine hs.at_poll hc hb hp hr rfl rfl rfl rfl rfl fun n hn => ?_
    have hpos := Config.pollLimit_of_wf hl.cfgWellFormed hn
    have hzero := hlim n hn
    omega

theorem Transitioned.keeps_inv {s t : State} (h : Transitioned s t) (hinv : s.Inv) (hq : s.seq = .idle) : t.Inv := by
  obtain ⟨hl, hs⟩ := (State.inv_iff s).1 hinv
  obtain ⟨a, items, l1, l2, l3, l4, d, r, rfl⟩ := h
  exact (State.inv_iff _).2 ⟨((hl.after_script items).enter a).congr rfl ⟨rfl, rfl⟩ ⟨rfl, rfl⟩,
    hs.congr rfl ⟨rfl, rfl, rfl, rfl, rfl, rfl, rfl, rfl⟩ hq.symm⟩

/-- Every operation that an idle block runs keeps the invariant. -/
theorem exec_keeps_inv {i : Instr} {s t : State} (hinv : s.Inv) (hq : s.seq = .idle) (h : exec i s = .next t) : t.Inv := by
  rcases exec_cases h with h | h | h | h | h
  · exact h.keeps_inv hinv hq
  · exact h.keeps_inv hinv hq
  · exact h.keeps_inv hinv hq
  · exact h.keeps_inv hinv
  · exact h.keeps_inv hinv hq

/-- A turn of the poll ends the conversion, or leaves it in flight with the limit not yet reached (R126, R133). -/
theorem pollOnce_keeps_inv {s : State} {p : Nat} (hinv : s.Inv) (hq : s.seq = .polling p) : (pollOnce s p).Inv := by
  obtain ⟨hl, hs⟩ := (State.inv_iff s).1 hinv
  obtain ⟨hc, hd, ha, hb, hp, hsel⟩ := pollOnce_keeps s p
  refine (State.inv_iff _).2 ⟨hl.congr hc hd ha, ?_⟩
  have hsel' : (pollOnce s p).sel = 0 ∨ ∃ c : Channel, (pollOnce s p).sel = oneHot c.val ∧ s.isRouted c.val = true := by
    rw [hsel]; exact hs.selRouted
  rcases pollOnce_cases s p with ⟨u, -, ht, -⟩ | ⟨a, -, ht⟩ | ⟨a, hlim, ht⟩
  · exact hs.at_rest hc hb hp hsel' (by rw [ht]; rfl) (by rw [ht]; rfl) (by rw [ht]; rfl)
  · exact hs.at_rest hc hb hp hsel' (by rw [ht]; rfl) (by rw [ht]; rfl) (by rw [ht]; rfl)
  · obtain ⟨hstart, hdone, -, ⟨c, hconv, hsc, hr⟩, hlt⟩ := hs.pollInFlight p hq
    rw [ht]
    refine hs.at_poll rfl rfl rfl hr hsc hstart hdone hconv rfl fun n hn => ?_
    have hne : n ≠ p + 1 := fun hn' => hlim (hn' ▸ hn)
    have := hlt n hn
    omega

/-- A move of the host keeps the invariant: it writes nothing of the block (R88). -/
theorem hostMove_keeps_inv {s : State} (hinv : s.Inv) (p : List HostItem) (m : Option Nat) : (hostMove s p m).Inv := by
  obtain ⟨hl, hs⟩ := (State.inv_iff s).1 hinv
  obtain ⟨hsm, ha, hd, -, hc, hq, -⟩ := hostMove_keeps s p m
  exact (State.inv_iff _).2 ⟨hl.congr hc hd ha, hs.congr hc hsm hq⟩

theorem rejectIllegal_keeps_inv {s : State} (hinv : s.Inv) (hq : s.seq = .idle) : s.rejectIllegal.Inv :=
  Answered.keeps_inv ⟨s.persistCnt, responseWord .protocolAssertion 0, rfl, .inl rfl⟩ hinv hq

/-- Settles O13, along everything a step can do. -/
theorem stepKeepsTheInvariant : Obligations.StepKeepsTheInvariant := by
  intro s t hinv h
  obtain ⟨-, ⟨polls, hq, rfl⟩ | ⟨hq, p, m, rfl | rfl | ⟨i, hi⟩⟩⟩ := step_cases h
  · exact pollOnce_keeps_inv hinv hq
  · exact hostMove_keeps_inv hinv p m
  · exact rejectIllegal_keeps_inv (hostMove_keeps_inv hinv p m) ((hostMove_seq s p m).trans hq)
  · exact exec_keeps_inv (hostMove_keeps_inv hinv p m) ((hostMove_seq s p m).trans hq) hi

end Sys2Proof.Machine
end

section
/-! PROOFS. Progress: a state with the invariant takes a next state (spec/10_state.md R35, spec/41_sampler.md R137, R141). The one
operation that can stop is ADC_READ, of a routed channel with the converter unpowered. -/

namespace Sys2Proof.Machine

theorem execAlertObs_completes (b : Bool) (s : State) : ∃ t, execAlertObs b s = .next t := by
  unfold execAlertObs
  split <;> exact ⟨_, rfl⟩

theorem execAlertAck_completes (s : State) : ∃ t, execAlertAck s = .next t := by
  unfold execAlertAck
  split <;> exact ⟨_, rfl⟩

theorem execAdcCfg_completes (chset div : Byte) (s : State) : ∃ t, execAdcCfg chset div s = .next t := by
  unfold execAdcCfg
  split <;> exact ⟨_, rfl⟩

/-- A channel that passes the check of ADC_READ's step 1 is one of the eight, and routed (R126). -/
theorem routed_of_not_badChannel {s : State} {ch : Byte} (h : badChannel s ch = false) :
    ∃ c : Channel, c.val = ch.toNat ∧ s.isRouted c.val = true := by
  simp only [badChannel, Bool.or_eq_false_iff, decide_eq_false_iff_not, Bool.not_eq_false'] at h
  obtain ⟨⟨hlt, -⟩, hr⟩ := h
  exact ⟨⟨ch.toNat, Nat.lt_of_not_le hlt⟩, rfl, hr⟩

/-- ADC_READ never stops where a routed channel has its converter powered: SEL is one-hot at the trigger, so neither of the
trigger's faults is met (R127, R137, R141). -/
theorem execAdcRead_completes {s : State} (hp : ∀ c : Channel, s.isRouted c.val = true → s.pdn = true) (ch : Byte) :
    ∃ t, execAdcRead ch s = .next t := by
  by_cases hb : badChannel s ch = true
  · exact ⟨_, by rw [execAdcRead, if_pos hb]⟩
  · rw [Bool.not_eq_true] at hb
    obtain ⟨c, hc, hr⟩ := routed_of_not_badChannel hb
    exact ⟨_, execAdcRead_eq hc hb (hp c hr)⟩

/-- Every operation completes where a routed channel has its converter powered (R35(h)). -/
theorem exec_completes {s : State} (hp : ∀ c : Channel, s.isRouted c.val = true → s.pdn = true) (i : Instr) :
    ∃ t, exec i s = .next t := by
  cases i with
  | lcdInit => exact ⟨_, rfl⟩
  | lcdCmd b => exact ⟨_, rfl⟩
  | lcdData b => exact ⟨_, rfl⟩
  | adcCfg chset div => exact execAdcCfg_completes chset div s
  | adcRead ch => exact execAdcRead_completes hp ch
  | alertObs b => exact execAlertObs_completes b s
  | alertAck => exact execAlertAck_completes s

/-- Whatever the host issues next, it completes (R88). -/
theorem issue_completes {s : State} (hp : ∀ c : Channel, s.isRouted c.val = true → s.pdn = true) (item : HostItem)
    (rest : List HostItem) : ∃ t, issue item rest s = .next t := by
  cases item with
  | request w =>
    simp only [issue, present]
    split
    · exact exec_completes (s := { s with program := rest }) hp _
    · exact ⟨_, rfl⟩
  | lcdStr cs =>
    cases cs with
    | nil => exact ⟨_, rfl⟩
    | cons c cs => exact ⟨_, rfl⟩
  | alertObsPin => exact execAlertObs_completes _ _
  | alertObsAdc c => exact execAdcRead_completes (s := { s with program := .alertObsOfSample :: rest }) hp c
  | alertObsOfSample =>
    simp only [issue, runAlertObsOfSample]
    split
    · exact ⟨_, rfl⟩
    · split
      · exact execAlertObs_completes _ _
      · exact ⟨_, rfl⟩
  | alertAckPin =>
    simp only [issue, runAlertAckPin]
    split
    · exact execAlertAck_completes _
    · exact ⟨_, rfl⟩

/-- Settles O14: a poll takes its turn, an idle block holds or runs what the host issues. -/
theorem invariantStatesNeverStop : Obligations.InvariantStatesNeverStop := by
  intro s hinv
  have hw := hinv.cfgWellFormed
  cases hq : s.seq with
  | polling polls => exact ⟨_, step_polls hw hq⟩
  | idle =>
    cases hprog : s.program with
    | nil => exact ⟨s, step_holds hw hq hprog⟩
    | cons item rest =>
      rw [step_issues hw hq hprog]
      exact issue_completes (fun c hr => hinv.poweredIffRouted.2 ⟨c, hr⟩) item rest

end Sys2Proof.Machine
end

section
/-! PROOFS. LCD_INIT (spec/40_display.md R105): the power-up settle and then the script of INIT_ROM, of which the lines keep the last
byte. -/

namespace Sys2Proof.Machine

/-- LCD_INIT is one wait and a script of six commands (R105). -/
theorem execLcdInit_eq (s : State) : execLcdInit s = .next (({ s with
    rsMode := false
    pa := runLatch s.pa (scriptEvents s.cfg (initRom.map .cmd))
    trace := s.trace ++ (.wait s.cfg.tPowerup :: scriptEvents s.cfg (initRom.map .cmd)) } : State).retireLatches.respond .ok 0) := by
  simp only [execLcdInit, sendCommands_eq, scriptItems_retire, State.wait, State.emit, List.append_assoc, List.singleton_append]
  rfl

/-- The lines after a script are those after its last byte (R22, R100): each byte writes the data lines, RS and EN anew. -/
theorem bit_runLatch_script_last {c : Config} (h : c.PinFacts) (p : Port) (hp : p.width = c.portW) (items : List ScriptItem)
    (i : ScriptItem) (k : Nat) :
    (runLatch p (scriptEvents c (items ++ [i]))).bit k = lineAfterByte c (itemMode i) (itemByte i) (p.bit k) k := by
  have happ : scriptEvents c (items ++ [i]) = scriptEvents c items ++ byteEvents c (itemMode i) (itemByte i) := by
    simp [scriptEvents]
  rw [happ, runLatch_append, bit_runLatch_byte h _ (by simpa using hp), lineAfterByte, lineAfterByte]
  split
  next => rfl
  next hd =>
    split
    next => rfl
    next hr =>
      split
      next => rfl
      next he => exact bit_runLatch_script_other h p hp items hd hr he

/-- The events of INIT_ROM, byte by byte (R30, R105). -/
theorem scriptEvents_initRom (c : Config) : scriptEvents c (initRom.map .cmd) =
    byteEvents c false 0x33 ++ byteEvents c false 0x32 ++ byteEvents c false 0x28 ++ byteEvents c false 0x0C
      ++ byteEvents c false 0x06 ++ byteEvents c false 0x01 := by
  simp [scriptEvents, initRom, itemMode, itemByte]

/-- The twelve pairs of INIT_ROM (R105, R108). -/
theorem scriptStrobes_initRom : scriptStrobes (initRom.map .cmd) =
    [ (false, 0x3), (false, 0x3), (false, 0x3), (false, 0x2), (false, 0x2), (false, 0x8), (false, 0x0), (false, 0xC),
      (false, 0x0), (false, 0x6), (false, 0x0), (false, 0x1) ] := by
  decide

/-- A wait is no strobe (R59). -/
@[simp] theorem strobes_wait (c : Config) (p : Port) (d : Nat) (es : List Event) :
    strobes c p (.wait d :: es) = strobes c p es := by
  simp [strobes, fallsEn, latchAfter]

/-- Settles O26: LCD_INIT is a wait and the script of INIT_ROM, whose events, strobes and last lines the script lemmas give. -/
theorem lcdInitRunsTheFixedSequence : Obligations.LcdInitRunsTheFixedSequence := by
  intro s
  refine ⟨_, execLcdInit_eq s, ?_, rfl, rfl, rfl, ⟨rfl, rfl, rfl, rfl, rfl, rfl, rfl, rfl⟩, ⟨rfl, rfl⟩, ⟨rfl, rfl⟩,
    ⟨rfl, rfl, rfl⟩, fun hready => ?_⟩
  · simp [scriptEvents_initRom]
  · have hpins := Config.pinFacts_of_wf hready.cfgWellFormed
    refine ⟨?_, fun k => ?_⟩
    · have hstrobes := strobes_script hpins s.pa hready.wide (initRom.map .cmd) []
      rw [List.append_nil, strobes, List.append_nil, scriptStrobes_initRom] at hstrobes
      simpa using hstrobes
    · exact bit_runLatch_script_last hpins s.pa hready.wide ([0x33, 0x32, 0x28, 0x0C, 0x06].map .cmd) (.cmd 0x01) k

end Sys2Proof.Machine
end

section
/-! PROOFS. Only the Alert Machine's own operations write it and drive the buzzer (spec/10_state.md R31, R32,
spec/60_exceptions.md R188). -/

namespace Sys2Proof.Machine

/-- The Alert Machine is unchanged, and so is the buzzer line of a latch of PORT_W bits. -/
def AlarmKept (s t : State) : Prop :=
  SameAlert s t ∧ (s.cfg.wf = true → s.pa.width = s.cfg.portW → t.pa.bit s.cfg.buzzBit = s.pa.bit s.cfg.buzzBit)

theorem AlarmKept.of_same {s t : State} (ha : SameAlert s t) (hpa : t.pa = s.pa) : AlarmKept s t :=
  ⟨ha, fun _ _ => by rw [hpa]⟩

theorem Displayed.alarmKept {s t : State} (h : Displayed s t) : AlarmKept s t := by
  obtain ⟨waits, items, l1, l2, l3, l4, d, r, rfl⟩ := h
  exact ⟨⟨rfl, rfl⟩, fun hw hwide => buzz_after_script (Config.pinFacts_of_wf hw) s.pa hwide items⟩

theorem execLcdInit_alarmKept {s t : State} (h : execLcdInit s = .next t) : AlarmKept s t := by
  obtain rfl := Host.Outcome.next.inj ((execLcdInit_eq s).symm.trans h)
  exact ⟨⟨rfl, rfl⟩, fun hw hwide => buzz_after_script (Config.pinFacts_of_wf hw) s.pa hwide (initRom.map .cmd)⟩

theorem execAdcCfg_alarmKept {chset div : Byte} {s t : State} (h : execAdcCfg chset div s = .next t) : AlarmKept s t := by
  unfold execAdcCfg at h
  split at h
  all_goals
    obtain rfl := Host.Outcome.next.inj h
    exact .of_same ⟨rfl, rfl⟩ rfl

theorem execAdcRead_alarmKept {ch : Byte} {s t : State} (h : execAdcRead ch s = .next t) : AlarmKept s t := by
  rcases execAdcRead_cases h with rfl | ⟨c, hc, hr, hp, hx⟩
  · exact .of_same ⟨rfl, rfl⟩ rfl
  · obtain ⟨-, hd, ha, -, -⟩ := Sampled.keeps (s := s) ⟨ch, c, hc, hr, hp, hx⟩
    exact .of_same ha hd.pa

/-- Settles O50, operation by operation. -/
theorem onlyAlertOperationsDriveTheAlarm : Obligations.OnlyAlertOperationsDriveTheAlarm := by
  intro i s t hobs hack hw h
  have hkept : AlarmKept s t := by
    cases i with
    | lcdInit => exact execLcdInit_alarmKept h
    | lcdCmd b => rw [← Host.Outcome.next.inj h]; exact (byteAndSettle_displayed s false b).alarmKept
    | lcdData b => rw [← Host.Outcome.next.inj h]; exact (byteAndSettle_displayed s true b).alarmKept
    | adcCfg chset div => exact execAdcCfg_alarmKept h
    | adcRead ch => exact execAdcRead_alarmKept h
    | alertObs b => exact absurd rfl (hobs b)
    | alertAck => exact absurd rfl hack
  exact ⟨hkept.1, hkept.2 hw⟩

end Sys2Proof.Machine
end

section
/-! PROOFS. The state at reset (spec/10_state.md R36). -/

namespace Sys2Proof.Machine

/-- Every line of PORT_A is low at reset (R36). -/
@[simp] theorem resetWith_pa_bit (c : Config) (k : Nat) : (State.resetWith c).pa.bit k = false := BitVec.getLsbD_zero

@[simp] theorem resetWith_pb_bit (c : Config) (k : Nat) : (State.resetWith c).pb.bit k = false := BitVec.getLsbD_zero

/-- No channel is routed at reset (R36). -/
@[simp] theorem resetWith_isRouted (c : Config) (k : Nat) : (State.resetWith c).isRouted k = false := by
  simp [State.isRouted]

/-- Settles O11: the fields as reset writes them, and both latches all zero. -/
theorem resetValues : Obligations.ResetValues :=
  fun c => ⟨rfl, rfl, rfl, fun k _ => resetWith_pa_bit c k, rfl, fun k _ => resetWith_pb_bit c k,
    rfl, rfl, rfl, rfl, rfl, rfl, rfl, rfl, rfl, rfl⟩

/-- Settles O12: nothing is routed, powered or in flight, no line is high, and the Alert Machine is in Quiescent. -/
theorem invariantAtReset : Obligations.InvariantAtReset := fun c hw =>
  { cfgWellFormed := hw
    portsWide := ⟨rfl, rfl⟩
    quiescentCount := fun _ => rfl
    alertCount := fun h => by cases h
    enLow := resetWith_pa_bit c _
    rsAgrees := resetWith_pa_bit c _
    buzzAgrees := resetWith_pa_bit c _
    selRouted := .inl rfl
    idleQuiet := fun _ => ⟨rfl, rfl⟩
    poweredIffRouted := iff_of_false Bool.false_ne_true (by simp)
    pollInFlight := fun _ h => by cases h }

end Sys2Proof.Machine
end

section
/-! PROOFS. The port primitives on both ports (spec/20_memory.md R51 to R53): what a set, a clear and a read of PORT_A do to each
bit, and what they leave. -/

namespace Sys2Proof.Machine

@[simp] theorem Port.set_zero (p : Port) : p.set 0 = p := by
  simp [Port.set]

@[simp] theorem Port.clr_zero (p : Port) : p.clr 0 = p := by
  simp [Port.clr]

theorem Port.bit_set_of_lt {p : Port} {k : Nat} (hk : k < p.width) (m : Nat) :
    (p.set m).bit k = (p.bit k || m.testBit k) := by
  rw [Port.bit_set, decide_eq_true hk, Bool.true_and]

/-- Settles O18: the bits of a set latch, at both ports, and the frame. -/
theorem portSetSetsTheMaskedBits : Obligations.PortSetSetsTheMaskedBits :=
  fun s m => ⟨fun _ hk => Port.bit_set_of_lt hk m, fun _ hk => Port.bit_set_of_lt hk m, rfl, rfl, rfl, rfl,
    s.pa.set_zero, s.pb.set_zero⟩

/-- Settles O19: the bits of a cleared latch, at both ports, and the frame. -/
theorem portClearClearsTheMaskedBits : Obligations.PortClearClearsTheMaskedBits :=
  fun s m => ⟨fun k _ => s.pa.bit_clr m k, fun k _ => s.pb.bit_clr m k, rfl, rfl, rfl, rfl, s.pa.clr_zero, s.pb.clr_zero⟩

/-- A bit of a read of PORT_A (R53): the latch at the block's bits, the pin elsewhere, 0 outside the mask. -/
theorem State.testBit_paReadValue (s : State) (m k : Nat) : (s.paReadValue m).testBit k =
    (decide (k < s.pa.width) && (m.testBit k && (if blockBitA s.cfg k then s.pa.bit k else s.levels.testBit k))) := by
  rw [State.paReadValue, testBit_readValue, testBit_blockMaskA]

/-- Settles O20: the value bit by bit, and the frame of the read. -/
theorem portReadReturnsLevels : Obligations.PortReadReturnsLevels := by
  intro s m
  refine ⟨fun k hk => ?_, fun k hk => ?_, s.paRead_trace m, s.paRead_rsps m, s.paRead_seq m, ?_, ?_, ?_, ?_, ?_⟩
  · rw [s.testBit_paReadValue, decide_eq_true hk, Bool.true_and]
  · rw [s.testBit_paReadValue, decide_eq_false (Nat.not_lt.2 hk), Bool.false_and]
  all_goals constructor <;> simp

end Sys2Proof.Machine
end

section
/-! PROOFS. The nibble and the byte transfer (spec/20_memory.md R60, spec/40_display.md R100, R101): a byte is its nibbles, each one
transfer with one strobe. -/

namespace Sys2Proof.Machine

theorem toNat_highNibble (b : Byte) : (highNibble b).toNat = b.toNat / 16 := by
  have := b.isLt
  simp only [highNibble, BitVec.extractLsb'_toNat, Nat.shiftRight_eq_div_pow]
  omega

theorem toNat_lowNibble (b : Byte) : (lowNibble b).toNat = b.toNat % 16 := by
  simp [lowNibble, BitVec.extractLsb'_toNat]

/-- Settles O30: the quotient and remainder by 16, put together again. -/
theorem nibblesMakeUpTheByte : Obligations.NibblesMakeUpTheByte := by
  refine fun b => ⟨toNat_highNibble b, toNat_lowNibble b, BitVec.eq_of_toNat_eq ?_⟩
  have hlow := (lowNibble b).isLt
  rw [BitVec.toNat_append, ← Nat.shiftLeft_add_eq_or_of_lt hlow, toNat_highNibble, toNat_lowNibble, Nat.shiftLeft_eq]
  omega

/-- Settles O21: the transfer as one update of the state, its lines and its strobe. -/
theorem nibbleTransferIsSevenEvents : Obligations.NibbleTransferIsSevenEvents := by
  intro s m n hready
  have hpins := Config.pinFacts_of_wf hready.cfgWellFormed
  have hstrobe := strobes_xfer hpins s.pa hready.wide m n []
  rw [List.append_nil] at hstrobe
  simp only [xfer_eq]
  exact ⟨rfl, bit_runLatch_xfer hpins s.pa hready.wide m n, hstrobe, trivial⟩

/-- The strobes of a row of nibble transfers are its nibbles (R100). -/
theorem strobes_nibbles {c : Config} (h : c.PinFacts) (p : Port) (hp : p.width = c.portW) (m : Bool) (ns : List Nibble) :
    strobes c p (ns.flatMap (xferEvents c m)) = ns.map (fun n => (m, n)) := by
  induction ns generalizing p with
  | nil => rfl
  | cons n ns ih => rw [List.flatMap_cons, strobes_xfer h p hp, ih _ (by simpa using hp), List.map_cons]

theorem singleNibble_iff (m : Bool) (b : Byte) : singleNibble m b = true ↔ m = false ∧ (b = 0x30 ∨ b = 0x20) := by
  simp [singleNibble]

/-- A byte transfer is a transfer of each of the byte's nibbles (R101). -/
theorem byteXfer_eq (s : State) (m : Bool) (b : Byte) :
    byteXfer s m b = { s with
      lcdByte := b
      lcdMode := m
      rsMode := m
      nib := lastNibble m b
      pa := runLatch s.pa ((byteNibbles m b).flatMap (xferEvents s.cfg m))
      trace := s.trace ++ (byteNibbles m b).flatMap (xferEvents s.cfg m) } := by
  by_cases h : m = false ∧ (b = 0x30 ∨ b = 0x20)
  · simp only [byteXfer, if_pos ((singleNibble_iff m b).2 h), byteNibbles, lastNibble, if_pos h, xfer_eq, highNibble,
      List.flatMap_cons, List.flatMap_nil, List.append_nil]
  · simp only [byteXfer, if_neg (mt (singleNibble_iff m b).1 h), byteNibbles, lastNibble, if_neg h, xfer_eq, highNibble,
      lowNibble, List.flatMap_cons, List.flatMap_nil, List.append_nil, runLatch_append, List.append_assoc]

/-- Settles O22: the events and strobes of the byte's nibbles, with both cases of R101 written out. -/
theorem byteTransferUpperNibbleFirst : Obligations.ByteTransferUpperNibbleFirst := by
  intro s m b
  simp only [byteXfer_eq]
  refine ⟨?_, trivial, trivial, fun hready => ?_⟩
  · unfold byteNibbles
    split <;> simp
  · rw [List.drop_left, strobes_nibbles (Config.pinFacts_of_wf hready.cfgWellFormed) s.pa hready.wide]
    unfold byteNibbles
    split <;> rfl

end Sys2Proof.Machine
end

section
/-! PROOFS. How many transfers and events a byte, a script and LCD_INIT are (spec/40_display.md R109, R114), and that the bus-width
commands are one transfer wherever they stand (spec/70_reset_and_hazards.md R207). -/

namespace Sys2Proof.Machine

/-! ### The events that an operation adds -/

theorem runScript_trace (s : State) (items : List ScriptItem) :
    (runScript s items).trace = s.trace ++ scriptEvents s.cfg items := by
  obtain ⟨l1, l2, l3, l4, d, h⟩ := runScript_cases s items
  rw [h]

theorem byteAndSettle_trace (s : State) (m : Bool) (b : Byte) :
    (byteAndSettle s m b).trace = s.trace ++ byteEvents s.cfg m b := by
  rw [byteAndSettle_eq]

theorem exec_lcdCmd_trace (b : Byte) (s : State) :
    ∃ t, exec (.lcdCmd b) s = .next t ∧ t.trace = s.trace ++ byteEvents s.cfg false b :=
  ⟨_, rfl, byteAndSettle_trace s false b⟩

theorem exec_lcdData_trace (b : Byte) (s : State) :
    ∃ t, exec (.lcdData b) s = .next t ∧ t.trace = s.trace ++ byteEvents s.cfg true b :=
  ⟨_, rfl, byteAndSettle_trace s true b⟩

theorem exec_lcdInit_trace (s : State) :
    ∃ t, exec .lcdInit s = .next t
      ∧ t.trace = s.trace ++ (.wait s.cfg.tPowerup :: scriptEvents s.cfg (initRom.map .cmd)) :=
  ⟨_, execLcdInit_eq s, rfl⟩

/-! ### Their strobes -/

theorem strobes_byteEvents {c : Config} (h : c.PinFacts) (p : Port) (hp : p.width = c.portW) (m : Bool) (b : Byte) :
    strobes c p (byteEvents c m b) = byteStrobes m b := by
  simpa [strobes] using strobes_byte h p hp m b []

theorem strobes_scriptEvents {c : Config} (h : c.PinFacts) (p : Port) (hp : p.width = c.portW) (items : List ScriptItem) :
    strobes c p (scriptEvents c items) = scriptStrobes items := by
  simpa [strobes] using strobes_script h p hp items []

/-- The bus-width commands are one transfer (R101, R207). -/
theorem byteStrobes_busWidth {b : Byte} (hb : b = 0x30 ∨ b = 0x20) : byteStrobes false b = [(false, b.extractLsb' 4 4)] := by
  rw [byteStrobes, byteNibbles, if_pos ⟨rfl, hb⟩, List.map_singleton]

/-! ### How many there are -/

theorem length_byteNibbles (m : Bool) (b : Byte) :
    (byteNibbles m b).length = if m = false ∧ (b = 0x30 ∨ b = 0x20) then 1 else 2 := by
  unfold byteNibbles
  split <;> rfl

@[simp] theorem length_xferEvents (c : Config) (m : Bool) (n : Nibble) : (xferEvents c m n).length = 7 := rfl

/-- Seven events for each nibble, and the settle (R109). -/
theorem length_byteEvents (c : Config) (m : Bool) (b : Byte) :
    (byteEvents c m b).length = if m = false ∧ (b = 0x30 ∨ b = 0x20) then 8 else 15 := by
  unfold byteEvents byteNibbles
  split <;> simp

theorem length_byteStrobes (m : Bool) (b : Byte) :
    (byteStrobes m b).length = if m = false ∧ (b = 0x30 ∨ b = 0x20) then 1 else 2 := by
  rw [byteStrobes, List.length_map, length_byteNibbles]

/-- A script item is one transfer when it is a bus-width command, and two otherwise (R114). -/
theorem length_itemStrobes (i : ScriptItem) :
    (byteStrobes (itemMode i) (itemByte i)).length = if (i == .cmd 0x30 || i == .cmd 0x20) = true then 1 else 2 := by
  rw [length_byteStrobes]
  cases i <;> simp [itemMode, itemByte]

/-- A script of `k` items, `s` of them bus-width commands, is `2k - s` transfers (R114). -/
theorem length_scriptStrobes (items : List ScriptItem) :
    (scriptStrobes items).length = 2 * items.length - items.countP (fun i => i == .cmd 0x30 || i == .cmd 0x20) := by
  induction items with
  | nil => rfl
  | cons i is ih =>
    have hle := List.countP_le_length (p := fun i => i == ScriptItem.cmd 0x30 || i == .cmd 0x20) (l := is)
    have hcons : scriptStrobes (i :: is) = byteStrobes (itemMode i) (itemByte i) ++ scriptStrobes is := List.flatMap_cons ..
    rw [hcons, List.length_append, length_itemStrobes, ih, List.length_cons, List.countP_cons]
    split <;> omega

/-- INIT_ROM holds no bus-width command: 15 events for each of its six bytes (R109). -/
theorem length_scriptEvents_initRom (c : Config) : (scriptEvents c (initRom.map .cmd)).length = 90 := by
  simp [scriptEvents_initRom, length_byteEvents]

/-- The transfers and the events of an operation that adds one byte and its settle (R109). -/
theorem byte_counts {s t : State} (h : s.cfg.PinFacts) (hwide : s.pa.width = s.cfg.portW) {m : Bool} {b : Byte}
    (ht : t.trace = s.trace ++ byteEvents s.cfg m b) :
    (strobes s.cfg s.pa (t.trace.drop s.trace.length)).length = (if m = false ∧ (b = 0x30 ∨ b = 0x20) then 1 else 2)
    ∧ t.trace.length = s.trace.length + (if m = false ∧ (b = 0x30 ∨ b = 0x20) then 8 else 15) := by
  rw [ht, List.drop_left, strobes_byteEvents h s.pa hwide, length_byteStrobes, List.length_append, length_byteEvents]
  exact ⟨rfl, rfl⟩

/-- Settles O29: each operation's events and strobes, counted by the lemmas above. -/
theorem transferAndEventCounts : Obligations.TransferAndEventCounts := by
  intro s hw hwide
  have hpins := Config.pinFacts_of_wf hw
  refine ⟨fun b => ?_, fun b => ?_, ?_, fun items => ?_⟩
  · obtain ⟨t, ht, htrace⟩ := exec_lcdCmd_trace b s
    exact ⟨t, ht, by simpa using byte_counts hpins hwide htrace⟩
  · obtain ⟨t, ht, htrace⟩ := exec_lcdData_trace b s
    exact ⟨t, ht, by simpa using byte_counts hpins hwide htrace⟩
  · obtain ⟨t, ht, htrace⟩ := exec_lcdInit_trace s
    refine ⟨t, ht, ?_, ?_⟩
    · simp [htrace, strobes_scriptEvents hpins s.pa hwide, scriptStrobes_initRom]
    · simp [htrace, length_scriptEvents_initRom]
  · rw [runScript_trace, List.drop_left, strobes_scriptEvents hpins s.pa hwide, length_scriptStrobes]

/-- Settles O55: the strobes of the command alone, and of a script with the command between two others. -/
theorem busWidthCommandsAreNeverSplit : Obligations.BusWidthCommandsAreNeverSplit := by
  intro b s hb hw hwide
  have hpins := Config.pinFacts_of_wf hw
  refine ⟨?_, fun before after => ?_⟩
  · obtain ⟨t, ht, htrace⟩ := exec_lcdCmd_trace b s
    refine ⟨t, ht, ?_⟩
    rw [htrace, List.drop_left, strobes_byteEvents hpins s.pa hwide, byteStrobes_busWidth hb]
  · rw [runScript_trace, List.drop_left, strobes_scriptEvents hpins s.pa hwide]
    simp [scriptStrobes, itemMode, itemByte, byteStrobes_busWidth hb]

end Sys2Proof.Machine
end

section
/-! PROOFS. The bits of both ports that are not the block's (spec/20_memory.md R55, R56): shown for what every operation and every
step can do. -/

namespace Sys2Proof.Machine

/-- Every bit of either port that the block does not drive is as it was. -/
def OtherBitsKept (s t : State) : Prop :=
  (∀ k, blockBitA s.cfg k = false → t.pa.bit k = s.pa.bit k)
  ∧ (∀ k, blockBitB s.cfg k = false → t.pb.bit k = s.pb.bit k)

theorem OtherBitsKept.of_unchanged {s t : State} (ha : t.pa = s.pa) (hb : t.pb = s.pb) : OtherBitsKept s t :=
  ⟨fun _ _ => by rw [ha], fun _ _ => by rw [hb]⟩

theorem OtherBitsKept.trans {s t u : State} (hc : t.cfg = s.cfg) (h₁ : OtherBitsKept s t) (h₂ : OtherBitsKept t u) :
    OtherBitsKept s u := by
  obtain ⟨ha, hb⟩ := h₁
  obtain ⟨ha', hb'⟩ := h₂
  rw [hc] at ha' hb'
  exact ⟨fun k hk => (ha' k hk).trans (ha k hk), fun k hk => (hb' k hk).trans (hb k hk)⟩

/-- A channel set routes no bit of PORT_B but the routing bits (R25, R55). -/
theorem testBit_routeMask_undriven {c : Config} {k : Nat} (hk : blockBitB c k = false) (chset : Byte) :
    (routeMask c chset).testBit k = false := by
  simp only [blockBitB, Bool.and_eq_false_iff, decide_eq_false_iff_not] at hk
  rw [testBit_routeMask]
  rcases hk with hk | hk
  · rw [decide_eq_false hk, Bool.false_and]
  · rw [BitVec.getLsbD_of_ge _ _ (by omega), Bool.and_false]

theorem ne_buzzBit_of_undriven {c : Config} {k : Nat} (hk : blockBitA c k = false) : k ≠ c.buzzBit := by
  rw [blockBitA, Bool.or_eq_false_iff, beq_eq_false_iff_ne] at hk
  exact hk.2

/-- Driving the buzzer leaves every other line (R156), whatever the latch's width. -/
theorem bit_driveBuzzer_of_ne {c : Config} {k : Nat} (hk : k ≠ c.buzzBit) (a : AlertState) (p : Port) :
    (if a = .alert then p.set (buzzMask c) else p.clr (buzzMask c)).bit k = p.bit k := by
  cases a <;> simp [Port.bit_set, Port.bit_clr, testBit_buzzMask, hk]

/-! ### Operations -/

theorem Displayed.otherBitsKept {s t : State} (h : Displayed s t) : OtherBitsKept s t := by
  obtain ⟨waits, items, l1, l2, l3, l4, d, r, rfl⟩ := h
  exact ⟨fun k hk => bit_runLatch_script_undriven s.cfg items s.pa hk, fun _ _ => rfl⟩

theorem Configured.otherBitsKept {s t : State} (h : Configured s t) : OtherBitsKept s t := by
  obtain ⟨chset, div, r, -, rfl⟩ := h
  refine ⟨fun _ _ => rfl, fun k hk => ?_⟩
  rw [Port.bit_set, testBit_routeMask_undriven hk, Bool.and_false, Bool.or_false]

theorem Transitioned.otherBitsKept {s t : State} (h : Transitioned s t) : OtherBitsKept s t := by
  obtain ⟨a, items, l1, l2, l3, l4, d, r, rfl⟩ := h
  refine ⟨fun k hk => ?_, fun _ _ => rfl⟩
  exact (bit_driveBuzzer_of_ne (ne_buzzBit_of_undriven hk) a _).trans (bit_runLatch_script_undriven s.cfg items s.pa hk)

theorem exec_otherBitsKept {i : Instr} {s t : State} (h : exec i s = .next t) : OtherBitsKept s t := by
  rcases exec_cases h with ⟨n, r, rfl, -⟩ | h | h | h | h
  · exact .of_unchanged rfl rfl
  · exact h.otherBitsKept
  · exact h.otherBitsKept
  · obtain ⟨-, hd, -, hb, -⟩ := h.keeps
    exact .of_unchanged hd.pa hb
  · exact h.otherBitsKept

/-! ### Steps -/

theorem hostMove_otherBitsKept (s : State) (p : List HostItem) (m : Option Nat) : OtherBitsKept s (hostMove s p m) := by
  obtain ⟨hs, -, hd, -⟩ := hostMove_keeps s p m
  exact .of_unchanged hd.pa hs.pb

/-- Settles O17, along everything a step can do. -/
theorem stepChangesOnlyTheBlocksBits : Obligations.StepChangesOnlyTheBlocksBits := by
  intro s t h
  change OtherBitsKept s t
  obtain ⟨-, ⟨polls, -, rfl⟩ | ⟨-, p, m, rfl | rfl | ⟨i, hi⟩⟩⟩ := step_cases h
  · obtain ⟨-, hd, -, hb, -⟩ := pollOnce_keeps s polls
    exact .of_unchanged hd.pa hb
  · exact hostMove_otherBitsKept s p m
  · exact hostMove_otherBitsKept s p m
  · exact (hostMove_otherBitsKept s p m).trans (hostMove_cfg s p m) (exec_otherBitsKept hi)

end Sys2Proof.Machine
end

section
/-! PROOFS. RS and the data lines hold still while EN is high (spec/20_memory.md R58, spec/40_display.md R107): in the new events of
every display script, every operation and every step. -/

namespace Sys2Proof.Machine

/-- An event that leaves PORT_A moves no line. -/
theorem stableUnderStrobe_cons_of_latch {c : Config} {p : Port} {e : Event} (h : latchAfter p e = p) (es : List Event) :
    stableUnderStrobe c p (e :: es) = stableUnderStrobe c p es := by
  simp [stableUnderStrobe, h]

theorem stableUnderStrobe_waits (c : Config) (p : Port) (ds : List Nat) (es : List Event) :
    stableUnderStrobe c p (ds.map .wait ++ es) = stableUnderStrobe c p es := by
  induction ds with
  | nil => rfl
  | cons d ds ih => rw [List.map_cons, List.cons_append, stableUnderStrobe_cons_of_latch rfl, ih]

/-- A last event with EN low before it may move any line. -/
theorem stableUnderStrobe_singleton {c : Config} {p : Port} (hen : p.bit c.enBit = false) (e : Event) :
    stableUnderStrobe c p [e] = true := by
  simp [stableUnderStrobe, hen]

/-- The trace of `t` is that of `s` and then some new events, and RS and the data lines hold still under EN in these. -/
def AddsStableEvents (s t : State) : Prop :=
  ∃ es : List Event, t.trace = s.trace ++ es ∧ stableUnderStrobe s.cfg s.pa es = true

theorem AddsStableEvents.of_trace_eq {s t : State} (h : t.trace = s.trace) : AddsStableEvents s t :=
  ⟨[], by rw [h, List.append_nil], rfl⟩

theorem AddsStableEvents.stable_drop {s t : State} (h : AddsStableEvents s t) :
    stableUnderStrobe s.cfg s.pa (t.trace.drop s.trace.length) = true := by
  obtain ⟨es, ht, hes⟩ := h
  rw [ht, List.drop_left, hes]

/-! ### Scripts and operations -/

theorem State.Inv.displayReady {s : State} (h : s.Inv) : s.DisplayReady :=
  ⟨h.cfgWellFormed, h.portsWide.1, h.enLow⟩

theorem stable_scriptEvents {s : State} (hready : s.DisplayReady) (items : List ScriptItem) :
    stableUnderStrobe s.cfg s.pa (scriptEvents s.cfg items) = true := by
  have hpins := Config.pinFacts_of_wf hready.cfgWellFormed
  simpa [stableUnderStrobe] using stable_script hpins s.pa hready.wide hready.enLow items []

theorem runScript_addsStableEvents {s : State} (hready : s.DisplayReady) (items : List ScriptItem) :
    AddsStableEvents s (runScript s items) :=
  ⟨_, runScript_trace s items, stable_scriptEvents hready items⟩

theorem Displayed.addsStableEvents {s t : State} (h : Displayed s t) (hready : s.DisplayReady) : AddsStableEvents s t := by
  obtain ⟨waits, items, l1, l2, l3, l4, d, r, rfl⟩ := h
  exact ⟨_, rfl, (stableUnderStrobe_waits ..).trans (stable_scriptEvents hready items)⟩

theorem Configured.addsStableEvents {s t : State} (h : Configured s t) : AddsStableEvents s t := by
  obtain ⟨chset, div, r, -, rfl⟩ := h
  exact ⟨_, rfl, stableUnderStrobe_cons_of_latch rfl []⟩

theorem Sampled.addsStableEvents {s t : State} (h : Sampled s t) : AddsStableEvents s t := by
  obtain ⟨ch, c, -, -, -, ⟨a, q, rfl⟩ | ⟨a, q, rfl⟩ | ⟨-, k, rfl⟩⟩ := h
  · exact .of_trace_eq (by simp [finishRead, triggered])
  · exact .of_trace_eq (by simp [timeoutRead, triggered])
  · exact .of_trace_eq (by simp [triggered])

/-- The script of a hook leaves EN low, so that the buzzer moves under no strobe (R156). -/
theorem Transitioned.addsStableEvents {s t : State} (h : Transitioned s t) (hready : s.DisplayReady) :
    AddsStableEvents s t := by
  obtain ⟨a, items, l1, l2, l3, l4, d, r, rfl⟩ := h
  refine ⟨_, rfl, ?_⟩
  have hpins := Config.pinFacts_of_wf hready.cfgWellFormed
  rw [stable_script hpins s.pa hready.wide hready.enLow]
  exact stableUnderStrobe_singleton (enLow_after_script hpins s.pa hready.wide hready.enLow items) _

theorem exec_addsStableEvents {i : Instr} {s t : State} (hready : s.DisplayReady) (h : exec i s = .next t) :
    AddsStableEvents s t := by
  rcases exec_cases h with ⟨n, r, rfl, -⟩ | h | h | h | h
  · exact .of_trace_eq rfl
  · exact h.addsStableEvents hready
  · exact h.addsStableEvents
  · exact h.addsStableEvents
  · exact h.addsStableEvents hready

/-! ### Steps -/

theorem pollOnce_trace (s : State) (p : Nat) : (pollOnce s p).trace = s.trace := by
  rcases pollOnce_cases s p with ⟨u, rfl | rfl | ⟨a, rfl⟩, hp, -⟩ | ⟨a, -, hp⟩ | ⟨a, -, hp⟩
  all_goals exact (congrArg State.trace hp).trans rfl

/-- A move of the host leaves PORT_A, and adds at most a read to the trace: what follows it is as stable as from the state
before (R53, R88). -/
theorem AddsStableEvents.after_hostMove {s t : State} {p : List HostItem} {m : Option Nat}
    (h : AddsStableEvents (hostMove s p m) t) : AddsStableEvents s t := by
  cases m with
  | none => exact h
  | some m =>
    obtain ⟨es, ht, hes⟩ := h
    refine ⟨.paRead m (({ s with program := p } : State).paReadValue m) :: es, ?_, ?_⟩
    · rw [ht]
      simp [hostMove]
    · rw [stableUnderStrobe_cons_of_latch rfl]
      simpa [hostMove] using hes

theorem step_addsStableEvents {s t : State} (hinv : s.Inv) (h : step s = .next t) : AddsStableEvents s t := by
  obtain ⟨-, ⟨polls, -, rfl⟩ | ⟨-, p, m, rfl | rfl | ⟨i, hi⟩⟩⟩ := step_cases h
  · exact .of_trace_eq (pollOnce_trace s polls)
  · exact AddsStableEvents.after_hostMove (.of_trace_eq rfl)
  · exact AddsStableEvents.after_hostMove (.of_trace_eq rfl)
  · exact (exec_addsStableEvents (hostMove_keeps_inv hinv p m).displayReady hi).after_hostMove

/-- Settles O27: every operation and script from ready lines, and every step from the invariant, whose lines are ready. -/
theorem linesHoldStillUnderTheStrobe : Obligations.LinesHoldStillUnderTheStrobe := by
  intro s
  refine ⟨fun hready => ⟨fun i t h => ?_, fun items => ?_⟩, fun hinv t h => ?_⟩
  · exact (exec_addsStableEvents hready h).stable_drop
  · exact (runScript_addsStableEvents hready items).stable_drop
  · exact (step_addsStableEvents hinv h).stable_drop

end Sys2Proof.Machine
end

section
/-! PROOFS. The encoding of the requests and responses (spec/30_encoding.md R75 to R85): the decoder read on the fields of a word,
its inverse, the disjoint rows, the illegal words, and the fields of a response. -/

namespace Sys2Proof

/-! ### A word and its fields -/

/-- A request word is its four fields (R75). -/
theorem eq_iff_fields (w v : Request) : w = v ↔
    Request.opc w = Request.opc v ∧ Request.rsv w = Request.rsv v ∧ Request.arg1 w = Request.arg1 v
      ∧ Request.arg0 w = Request.arg0 v := by
  refine ⟨fun h => by simp [h], fun ⟨ho, hr, h1, h0⟩ => BitVec.eq_of_toNat_eq ?_⟩
  rw [← BitVec.toNat_inj, toNat_opc, toNat_opc] at ho
  rw [← BitVec.toNat_inj, toNat_rsv, toNat_rsv] at hr
  rw [← BitVec.toNat_inj, toNat_arg1, toNat_arg1] at h1
  rw [← BitVec.toNat_inj, toNat_arg0, toNat_arg0] at h0
  omega

@[simp] theorem opc_formatQ (o : BitVec 4) (a b : Byte) : Request.opc (formatQ o a b) = o := (fields_formatQ o a b).1

@[simp] theorem rsv_formatQ (o : BitVec 4) (a b : Byte) : Request.rsv (formatQ o a b) = 0 := (fields_formatQ o a b).2

@[simp] theorem arg1_formatQ (o : BitVec 4) (a b : Byte) : Request.arg1 (formatQ o a b) = a := by
  apply BitVec.eq_of_toNat_eq
  have := a.isLt
  have := b.isLt
  rw [toNat_arg1, toNat_formatQ]
  omega

@[simp] theorem arg0_formatQ (o : BitVec 4) (a b : Byte) : Request.arg0 (formatQ o a b) = b :=
  BitVec.extractLsb'_append_eq_right

/-- Bits 7:1 of REQ, which are 0 in an ALERT_OBS (R76). -/
def Request.arg0High (w : Request) : BitVec 7 := w.extractLsb' 1 7

theorem toNat_arg0High (w : Request) : (Request.arg0High w).toNat = w.toNat / 2 % 2 ^ 7 := by
  simp [Request.arg0High, BitVec.extractLsb'_toNat, Nat.shiftRight_eq_div_pow]

theorem toNat_zero_append_ofBool (t : Bool) : (0#7 ++ BitVec.ofBool t).toNat = t.toNat := by
  cases t <;> rfl

/-- ARG0 of an ALERT_OBS is its operand in bit 0 and zeros (R76). -/
theorem arg0_of_arg0High_eq_zero {w : Request} (h : Request.arg0High w = 0) :
    0#7 ++ BitVec.ofBool (w.getLsbD 0) = Request.arg0 w := by
  apply BitVec.eq_of_toNat_eq
  rw [← BitVec.toNat_inj, toNat_arg0High] at h
  rw [toNat_zero_append_ofBool, toNat_arg0, BitVec.getLsbD, Nat.toNat_testBit]
  change _ = 0 at h
  omega

/-! ### Which row a word selects (R77) -/

theorem and_word_eq_iff (w : Request) (o : BitVec 4) : w &&& 0xFFFFFFFF#32 = formatQ o 0 0 ↔
    Request.opc w = o ∧ Request.rsv w = 0 ∧ Request.arg1 w = 0 ∧ Request.arg0 w = 0 := by
  rw [and_high_eq_iff w _ _ 0 (by decide) (by decide), toNat_formatQ]
  simp only [← BitVec.toNat_inj, toNat_opc, toNat_rsv, toNat_arg1, toNat_arg0, BitVec.ofNat_eq_ofNat, BitVec.toNat_zero]
  omega

theorem and_arg0_eq_iff (w : Request) (o : BitVec 4) : w &&& 0xFFFFFF00#32 = formatQ o 0 0 ↔
    Request.opc w = o ∧ Request.rsv w = 0 ∧ Request.arg1 w = 0 := by
  rw [and_high_eq_iff w _ _ 8 (by decide) (by decide), toNat_formatQ]
  simp only [← BitVec.toNat_inj, toNat_opc, toNat_rsv, toNat_arg1, BitVec.ofNat_eq_ofNat, BitVec.toNat_zero]
  omega

theorem and_args_eq_iff (w : Request) (o : BitVec 4) : w &&& 0xFFFF0000#32 = formatQ o 0 0 ↔
    Request.opc w = o ∧ Request.rsv w = 0 := by
  rw [and_high_eq_iff w _ _ 16 (by decide) (by decide), toNat_formatQ]
  simp only [← BitVec.toNat_inj, toNat_opc, toNat_rsv, BitVec.ofNat_eq_ofNat, BitVec.toNat_zero]
  omega

theorem and_bit_eq_iff (w : Request) (o : BitVec 4) : w &&& 0xFFFFFFFE#32 = formatQ o 0 0 ↔
    Request.opc w = o ∧ Request.rsv w = 0 ∧ Request.arg1 w = 0 ∧ Request.arg0High w = 0 := by
  rw [and_high_eq_iff w _ _ 1 (by decide) (by decide), toNat_formatQ]
  simp only [← BitVec.toNat_inj, toNat_opc, toNat_rsv, toNat_arg1, toNat_arg0High, BitVec.ofNat_eq_ofNat, BitVec.toNat_zero]
  omega

/-- R78 on the fields: the code in OPC picks the row, and the fields that R76 gives no operand must be 0. -/
theorem decode_fields (w : Request) : decode w =
    if Request.opc w = 0 ∧ Request.rsv w = 0 ∧ Request.arg1 w = 0 ∧ Request.arg0 w = 0 then .op .lcdInit
    else if Request.opc w = 1 ∧ Request.rsv w = 0 ∧ Request.arg1 w = 0 then .op (.lcdCmd (Request.arg0 w))
    else if Request.opc w = 2 ∧ Request.rsv w = 0 ∧ Request.arg1 w = 0 then .op (.lcdData (Request.arg0 w))
    else if Request.opc w = 3 ∧ Request.rsv w = 0 then .op (.adcCfg (Request.arg0 w) (Request.arg1 w))
    else if Request.opc w = 4 ∧ Request.rsv w = 0 ∧ Request.arg1 w = 0 then .op (.adcRead (Request.arg0 w))
    else if Request.opc w = 5 ∧ Request.rsv w = 0 ∧ Request.arg1 w = 0 ∧ Request.arg0High w = 0 then
      .op (.alertObs (w.getLsbD 0))
    else if Request.opc w = 6 ∧ Request.rsv w = 0 ∧ Request.arg1 w = 0 ∧ Request.arg0 w = 0 then .op .alertAck
    else .illegal (illegalReason w) := by
  simp only [← and_word_eq_iff, ← and_arg0_eq_iff, ← and_args_eq_iff, ← and_bit_eq_iff]
  exact decode_eq w

/-! ### Decoding and encoding are inverse -/

/-- The word of an operation decodes to it (R76 to R78). -/
theorem decode_encode (i : Instr) : decode (encode i) = .op i := by
  cases i with
  | alertObs t => cases t <;> decide
  | _ => simp [encode, decode_fields]

/-- A word that decodes to an operation is that operation's word (R77, R78). -/
theorem encode_of_decode {w : Request} {i : Instr} (h : decode w = .op i) : encode i = w := by
  rw [decode_fields] at h
  split_ifs at h with h0 h1 h2 h3 h4 h5 h6 <;> obtain rfl := Decoded.op.inj h
  · simp [encode, eq_iff_fields, h0]
  · simp [encode, eq_iff_fields, h1]
  · simp [encode, eq_iff_fields, h2]
  · simp [encode, eq_iff_fields, h3]
  · simp [encode, eq_iff_fields, h4]
  · obtain ⟨ho, hr, h1, hb⟩ := h5
    rw [encode, arg0_of_arg0High_eq_zero hb]
    simp [eq_iff_fields, ho, hr, h1]
  · simp [encode, eq_iff_fields, h6]

/-- Settles O1: the fields of each operation's word pass its own test of the decoder and none before it. -/
theorem encodeThenDecode : Obligations.EncodeThenDecode :=
  fun i _ => decode_encode i

/-- Settles O2: the test that a word passes says what its fields are, and the fields are the word. -/
theorem decodeThenEncode : Obligations.DecodeThenEncode :=
  fun _ _ h => encode_of_decode h

/-- Settles O5: each word is the operation's own. -/
theorem wordsOfTheSpecDecode : Obligations.WordsOfTheSpecDecode :=
  ⟨decode_encode .lcdInit, decode_encode (.lcdCmd 0x28), decode_encode (.lcdData 0x41), decode_encode (.adcCfg 0x30 1),
    decode_encode (.adcRead 4), decode_encode (.alertObs true), decode_encode .alertAck⟩

/-! ### The rows are disjoint -/

/-- A word that selects a row holds that row's operation code (R77). -/
theorem opc_of_selects {r : OpcodeRow} {w : Request} (hr : r ∈ opcodeMap) (h : r.selects w = true) :
    Request.opc r.pattern = Request.opc w := by
  have hmask : ∀ r ∈ opcodeMap, Request.opc r.mask = BitVec.allOnes 4 := by decide
  have hand : w &&& r.mask = r.pattern := by simpa [OpcodeRow.selects] using h
  rw [← hand, Request.opc, BitVec.extractLsb'_and]
  exact (congrArg (Request.opc w &&& ·) (hmask r hr)).trans BitVec.and_allOnes

/-- Settles O3: the rows that a word selects hold its operation code, and no two rows hold the same. -/
theorem opcodeRowsAreDisjoint : Obligations.OpcodeRowsAreDisjoint := by
  intro w
  have hnodup : (opcodeMap.map (fun r => Request.opc r.pattern)).Nodup := by decide
  have hselected : ((opcodeMap.filter (·.selects w)).map (fun r => Request.opc r.pattern)).Nodup :=
    hnodup.sublist (List.filter_sublist.map _)
  have hsame : ∀ o ∈ (opcodeMap.filter (·.selects w)).map (fun r => Request.opc r.pattern), o = Request.opc w := by
    intro o ho
    obtain ⟨r, hr, rfl⟩ := List.mem_map.1 ho
    obtain ⟨hmem, hsel⟩ := List.mem_filter.1 hr
    exact opc_of_selects hmem hsel
  rw [List.eq_replicate_of_mem hsame, List.nodup_replicate, List.length_map] at hselected
  exact hselected

/-! ### Illegal words -/

/-- A test of the decoder's chain that a word passes makes it legal; one that it fails leaves the rest of the chain. -/
theorem exists_illegal_ite {p : Prop} [Decidable p] (i : Instr) (d : Decoded) :
    (∃ why, (if p then Decoded.op i else d) = .illegal why) ↔ ¬p ∧ ∃ why, d = .illegal why := by
  by_cases h : p <;> simp [h]

/-- R79, field by field. -/
theorem illegal_iff_fields (w : Request) : (∃ why, decode w = .illegal why) ↔
    (7 ≤ (Request.opc w).toNat ∨ Request.rsv w ≠ 0
      ∨ (Request.opc w ≠ 3 ∧ Request.arg1 w ≠ 0)
      ∨ ((Request.opc w = 0 ∨ Request.opc w = 6) ∧ Request.arg0 w ≠ 0)
      ∨ (Request.opc w = 5 ∧ Request.arg0High w ≠ 0)) := by
  have hopc : 7 ≤ (Request.opc w).toNat ∨ Request.opc w = 0 ∨ Request.opc w = 1 ∨ Request.opc w = 2 ∨ Request.opc w = 3
      ∨ Request.opc w = 4 ∨ Request.opc w = 5 ∨ Request.opc w = 6 := by
    generalize Request.opc w = o
    revert o
    decide
  simp only [decode_fields, exists_illegal_ite]
  rcases hopc with h | h
  · have hne : ∀ o : BitVec 4, o.toNat < 7 → Request.opc w ≠ o := by
      rintro _ ho rfl
      omega
    simp [h, hne]
  · rcases h with h | h | h | h | h | h | h <;> simp [h, imp_iff_not_or]

end Sys2Proof

namespace Sys2Proof.Machine

/-- The request item of an illegal word (R79, R173). -/
theorem issue_request_of_illegal {w : Request} {why : Illegal} (h : decode w = .illegal why) (rest : List HostItem) (s : State) :
    issue (.request w) rest s = .next ({ s with program := rest } : State).rejectIllegal := by
  simp only [issue, present, h]

/-- The answer to an illegal word writes nothing but the response (R79, R173). -/
theorem rejectIllegal_of_idle {s : State} (hq : s.seq = .idle) :
    s.rejectIllegal = { s with rsps := s.rsps ++ [0x3000#16] } := by
  rw [State.rejectIllegal, State.raise, State.respond, ← hq]
  rfl

/-- Settles O4: the illegal words by their fields, and the answer of an idle block. -/
theorem illegalWordsAnswerProtocolAssertion : Obligations.IllegalWordsAnswerProtocolAssertion := by
  refine fun w => ⟨illegal_iff_fields w, ?_⟩
  rintro s rest hw hq hp ⟨why, hd⟩
  rw [step_issues hw hq hp, issue_request_of_illegal hd, rejectIllegal_of_idle (s := { s with program := rest }) hq]

/-! ### The response word -/

/-- The response's STATUS field (R80). -/
@[simp] theorem responseStatus_responseWord (st : Status) (v : BitVec 12) : responseStatus (responseWord st v) = st.code :=
  BitVec.extractLsb'_append_eq_left

/-- The response's VALUE field (R80). -/
@[simp] theorem responseValue_responseWord (st : Status) (v : BitVec 12) : responseValue (responseWord st v) = v :=
  BitVec.extractLsb'_append_eq_right

/-- Settles O6: the two fields of a response, and the codes as Status.code gives them. -/
theorem responseWordFields : Obligations.ResponseWordFields :=
  ⟨fun st v => ⟨responseStatus_responseWord st v, responseValue_responseWord st v⟩, rfl, rfl, rfl, rfl⟩

end Sys2Proof.Machine
end

section
/-! PROOFS. One turn of the poll in progress (spec/41_sampler.md R133, R138, R171). -/

namespace Sys2Proof.Machine

/-- A turn of the poll accepts no item of the program and writes no clock divider (R89, R133). -/
theorem pollOnce_program_clkdiv (s : State) (p : Nat) :
    (pollOnce s p).program = s.program ∧ (pollOnce s p).clkdiv = s.clkdiv := by
  rcases pollOnce_cases s p with ⟨u, rfl | rfl | ⟨a, rfl⟩, hp, -⟩ | ⟨a, -, hp⟩ | ⟨a, -, hp⟩
  all_goals
    rw [hp]
    exact ⟨rfl, rfl⟩

/-- A converter whose completion is not due only counts down (R138, R139). -/
theorem converterTurn_of_not_due {s : State} (ha : s.answer.delay ≠ some 0) :
    ∃ a, s.converterTurn = { s with answer := a } := by
  unfold State.converterTurn
  split
  next => exact ⟨s.answer, rfl⟩
  next => exact ⟨s.answer, rfl⟩
  next h => exact absurd h ha
  next => exact ⟨_, rfl⟩

/-- Settles O10: the turn that completes, the last turn that the limit allows, and any other. -/
theorem pollTakesOneTurnAndAcceptsNothing : Obligations.PollTakesOneTurnAndAcceptsNothing := by
  intro s polls c hw hq hc hd
  obtain ⟨hcfg, hdisplay, halert, hpb, hpdn, hsel⟩ := pollOnce_keeps s polls
  obtain ⟨hprogram, hclkdiv⟩ := pollOnce_program_clkdiv s polls
  refine ⟨pollOnce s polls, step_polls hw hq, hprogram, pollOnce_trace s polls, halert, hdisplay, hcfg, hpb, hsel, hclkdiv,
    hpdn, ?_⟩
  split_ifs with ha hl
  · rw [pollOnce_completes hc ha]
    exact ⟨rfl, rfl, rfl, rfl, rfl, rfl⟩
  · obtain ⟨a, hturn⟩ := converterTurn_of_not_due ha
    rw [pollOnce_timeout (by rw [hturn]; exact hd) hl, hturn]
    exact ⟨rfl, rfl, rfl, hd, rfl, rfl⟩
  · obtain ⟨a, hturn⟩ := converterTurn_of_not_due ha
    have hpoll : pollOnce s polls = { s with answer := a, seq := .polling (polls + 1) } := by
      simp [pollOnce, hturn, hd, hl]
    rw [hpoll]
    exact ⟨rfl, rfl, rfl, hd, rfl, hc⟩

end Sys2Proof.Machine
end

section
/-! PROOFS. The host's pseudo-instructions (spec/30_encoding.md R86, R87): strings, pin reads and the sample trigger. -/

namespace Sys2Proof.Machine

/-! ### LCD_STR -/

/-- The events of a character (R104): both nibbles with RS high, then the data settle. -/
theorem byteEvents_data (c : Config) (b : Byte) : byteEvents c true b =
    xferEvents c true (b.extractLsb' 4 4) ++ xferEvents c true (b.extractLsb' 0 4) ++ [.wait c.tDataSettle] := by
  simp [byteEvents, byteNibbles, byteWait]

/-- What sending a character leaves (R104): its events, the answer OK, an idle block, and the rest of the program. -/
theorem exec_lcdData_leaves (b : Byte) (s : State) : ∃ t, exec (.lcdData b) s = .next t ∧ t.cfg = s.cfg
    ∧ t.trace = s.trace ++ byteEvents s.cfg true b ∧ t.rsps = s.rsps ++ [0x0000#16] ∧ t.program = s.program ∧ t.seq = .idle := by
  refine ⟨((byteAndSettle s true b).retireLatches.respond .ok 0), rfl, ?_⟩
  rw [byteAndSettle_eq]
  exact ⟨rfl, rfl, rfl, rfl, rfl⟩

/-- Settles O51, by induction on the string: a step for its first byte, and then the string of the others. -/
theorem stringsAreSentByteByByte : Obligations.StringsAreSentByteByByte := by
  intro cs rest s hw hq hp
  induction cs generalizing s with
  | nil =>
    exact ⟨{ s with program := rest }, run_succ (step_issues hw hq hp) 0, by simp, by simp, rfl, hq⟩
  | cons c cs ih =>
    obtain ⟨u, hu, hcfg, htrace, hrsps, hprogram, hseq⟩ := exec_lcdData_leaves c { s with program := .lcdStr cs :: rest }
    obtain ⟨t, ht, ht', hr, hpt, hqt⟩ := ih u (by rw [hcfg]; exact hw) hseq hprogram
    refine ⟨t, (run_succ ((step_issues hw hq hp).trans hu) _).trans ht, ?_, ?_, hpt, hqt⟩
    · rw [ht', htrace, hcfg, byteEvents_data, List.flatMap_cons, List.append_assoc]
    · rw [hr, hrsps, List.length_cons, List.replicate_succ, List.append_assoc, List.singleton_append]

/-! ### The pins -/

/-- A read of PORT_A under the mask of one pin that the block does not drive is the level on that pin (R53, R158, R159). -/
theorem levelHigh_paReadValue {s : State} {k : Nat} (hk : k < s.pa.width) (hd : blockBitA s.cfg k = false) :
    levelHigh (s.paReadValue (1 <<< k)) = s.levels.testBit k := by
  have hv : s.paReadValue (1 <<< k) = if s.levels.testBit k then 2 ^ k else 0 := by
    apply Nat.eq_of_testBit_eq
    intro i
    rw [s.testBit_paReadValue, Nat.one_shiftLeft, Nat.testBit_two_pow]
    by_cases hi : k = i
    · subst hi
      cases s.levels.testBit k <;> simp [hk, hd]
    · cases s.levels.testBit k <;> simp [hi]
  rw [hv, levelHigh]
  cases s.levels.testBit k <;> simp

/-- Settles O52: the pins of the two pseudo-instructions are inputs of a well-formed block. -/
theorem pinPseudoInstructionsReadTheirPin : Obligations.PinPseudoInstructionsReadTheirPin := by
  intro s rest hw hwide hq
  have hpins := Config.pinFacts_of_wf hw
  have hpir : levelHigh (({ s with program := rest } : State).paReadValue (1 <<< s.cfg.pirBit)) = s.levels.testBit s.cfg.pirBit :=
    levelHigh_paReadValue (hwide.symm ▸ hpins.pirFits) hpins.pirNotDriven
  have hack : levelHigh (({ s with program := rest } : State).paReadValue (1 <<< s.cfg.ackBit)) = s.levels.testBit s.cfg.ackBit :=
    levelHigh_paReadValue (hwide.symm ▸ hpins.ackFits) hpins.ackNotDriven
  refine ⟨fun hp => ?_, fun hp => ?_⟩
  · rw [step_issues hw hq hp, issue, runAlertObsPin, pirMask, hpir]
  · rw [step_issues hw hq hp, issue, runAlertAckPin, ackMask, hack]

/-! ### The sample trigger -/

/-- The second half of ALERT_OBS_ADC after the response `r` (R87, R160). -/
theorem runAlertObsOfSample_of_rsps {s : State} {rs : List Response} {r : Response} (h : s.rsps = rs ++ [r]) :
    runAlertObsOfSample s =
      if responseStatus r = Status.ok.code then exec (.alertObs (belowTrigger s.cfg (responseValue r))) s else .next s := by
  rw [runAlertObsOfSample, h, List.getLast?_concat]

theorem code_eq_ok_iff (st : Status) : st.code = Status.ok.code ↔ st = .ok := by
  cases st <;> decide

/-- Settles O53: the read, and the two ways of the second half. -/
theorem samplePseudoInstructionComparesStrictly : Obligations.SamplePseudoInstructionComparesStrictly := by
  intro s c rest hw hq
  refine ⟨fun hp => step_issues hw hq hp, fun rs v hp hr => ?_, fun rs st v hp hr hst => ?_⟩
  · rw [step_issues hw hq hp, issue, runAlertObsOfSample_of_rsps (s := { s with program := rest }) hr,
      responseStatus_responseWord, if_pos rfl, responseValue_responseWord]
    rfl
  · rw [step_issues hw hq hp, issue, runAlertObsOfSample_of_rsps (s := { s with program := rest }) hr,
      responseStatus_responseWord, if_neg (mt (code_eq_ok_iff st).1 hst)]

end Sys2Proof.Machine
end

section
/-! PROOFS. The settle after a byte, and LCD_CMD and LCD_DATA (spec/40_display.md R102 to R104, R108, R111): both send one byte, with RS
as its mode, and answer OK. -/

namespace Sys2Proof.Machine

/-! ### The settle -/

@[simp] theorem settle_data (c : Config) (b : Byte) : settle c true b = c.tDataSettle := rfl

theorem inClearClass_iff (b : Byte) : inClearClass b = true ↔ b = 0x01 ∨ b = 0x02 ∨ b = 0x03 := by
  simp [inClearClass, or_assoc]

theorem settle_cmd (c : Config) (b : Byte) :
    settle c false b = if b = 0x01 ∨ b = 0x02 ∨ b = 0x03 then c.tClearSettle else c.tCmdSettle := by
  simp only [settle, Bool.false_eq_true, if_false, inClearClass_iff]

/-- Settles O23: the three classes of R102. -/
theorem settleClasses : Obligations.SettleClasses := fun c b =>
  ⟨settle_data c b, fun h => by rw [settle_cmd, if_pos h], fun h => by rw [settle_cmd, if_neg h]⟩

/-! ### What LCD_CMD and LCD_DATA leave -/

/-- The state after a byte has been sent and answered (R103, R104). -/
def byteSent (s : State) (m : Bool) (b : Byte) : State :=
  ({ s with
    rsMode := m
    pa := runLatch s.pa (byteEvents s.cfg m b)
    trace := s.trace ++ byteEvents s.cfg m b } : State).retireLatches.respond .ok 0

theorem exec_lcdCmd_eq (b : Byte) (s : State) : exec (.lcdCmd b) s = .next (byteSent s false b) := by
  rw [byteSent, ← byteAndSettle_retire]
  rfl

theorem exec_lcdData_eq (b : Byte) (s : State) : exec (.lcdData b) s = .next (byteSent s true b) := by
  rw [byteSent, ← byteAndSettle_retire]
  rfl

theorem byteSent_trace (s : State) (m : Bool) (b : Byte) : (byteSent s m b).trace = s.trace ++ byteEvents s.cfg m b := rfl

/-- Sending a byte answers OK, leaves the block idle and records the mode (R22, R182). -/
theorem byteSent_answers (s : State) (m : Bool) (b : Byte) :
    (byteSent s m b).rsps = s.rsps ++ [0x0000#16] ∧ (byteSent s m b).seq = .idle ∧ (byteSent s m b).rsMode = m :=
  ⟨rfl, rfl, rfl⟩

/-- Sending a byte leaves everything outside the Display Driver as it was. -/
theorem byteSent_frame (s : State) (m : Bool) (b : Byte) :
    SameSampler s (byteSent s m b) ∧ SameAlert s (byteSent s m b) ∧ SameHost s (byteSent s m b)
      ∧ SameOracles s (byteSent s m b) :=
  ⟨⟨rfl, rfl, rfl, rfl, rfl, rfl, rfl, rfl⟩, ⟨rfl, rfl⟩, ⟨rfl, rfl⟩, ⟨rfl, rfl, rfl⟩⟩

/-- What the display and the lines see of a byte, with the lines as R100 assumes (R103, R104, R108). -/
theorem byteSent_lines {s : State} (hready : s.DisplayReady) (m : Bool) (b : Byte) :
    strobes s.cfg s.pa (byteEvents s.cfg m b) = byteStrobes m b
      ∧ ∀ k, (byteSent s m b).pa.bit k = lineAfterByte s.cfg m b (s.pa.bit k) k :=
  have hpins := Config.pinFacts_of_wf hready.cfgWellFormed
  ⟨strobes_byteEvents hpins s.pa hready.wide m b, bit_runLatch_byte hpins s.pa hready.wide m b⟩

/-- A command is two strobes, and a bus-width command one (R101, R103). -/
theorem byteStrobes_cmd (b : Byte) : byteStrobes false b =
    if b = 0x30 ∨ b = 0x20 then [(false, b.extractLsb' 4 4)] else [(false, b.extractLsb' 4 4), (false, b.extractLsb' 0 4)] := by
  split
  next hb => exact byteStrobes_busWidth hb
  next hb => rw [byteStrobes, byteNibbles, if_neg (fun h => hb h.2)]; rfl

/-- A character is two strobes, whatever the byte (R101, R104). -/
theorem byteStrobes_data (b : Byte) : byteStrobes true b = [(true, b.extractLsb' 4 4), (true, b.extractLsb' 0 4)] := by
  rw [byteStrobes, byteNibbles, if_neg (fun h => Bool.noConfusion h.1)]
  rfl

/-- Settles O24: the byte sent with RS low. -/
theorem lcdCmdWritesACommandByte : Obligations.LcdCmdWritesACommandByte := by
  intro b s
  obtain ⟨hrsps, hseq, hmode⟩ := byteSent_answers s false b
  obtain ⟨hsampler, halert, hhost, horacles⟩ := byteSent_frame s false b
  refine ⟨_, exec_lcdCmd_eq b s, byteSent_trace s false b, hrsps, hseq, hmode, hsampler, halert, hhost, horacles, fun hready => ?_⟩
  rw [← byteStrobes_cmd]
  exact byteSent_lines hready false b

/-- Settles O25: the byte sent with RS high, which is two transfers whatever the byte. -/
theorem lcdDataWritesACharacter : Obligations.LcdDataWritesACharacter := by
  intro b s
  obtain ⟨hrsps, hseq, hmode⟩ := byteSent_answers s true b
  obtain ⟨hsampler, halert, hhost, horacles⟩ := byteSent_frame s true b
  refine ⟨_, exec_lcdData_eq b s, ?_, hrsps, hseq, hmode, hsampler, halert, hhost, horacles, fun hready => ?_⟩
  · rw [byteSent_trace, byteEvents_data]
  · rw [byteSent_trace, List.drop_left, ← byteStrobes_data]
    exact byteSent_lines hready true b

/-! ### Events and the past -/

/-- For each display operation and configuration there is one list of events, which the operation adds in every state (R111). -/
theorem exists_displayEvents (c : Config) {i : Instr} (hi : i = .lcdInit ∨ (∃ b, i = .lcdCmd b) ∨ (∃ b, i = .lcdData b)) :
    ∃ es, ∀ s : State, s.cfg = c → ∃ t, exec i s = .next t ∧ t.trace = s.trace ++ es := by
  rcases hi with rfl | ⟨b, rfl⟩ | ⟨b, rfl⟩
  · exact ⟨_, fun s hs => hs ▸ exec_lcdInit_trace s⟩
  · exact ⟨_, fun s hs => hs ▸ exec_lcdCmd_trace b s⟩
  · exact ⟨_, fun s hs => hs ▸ exec_lcdData_trace b s⟩

/-- Settles O28: two states with one configuration share the list that `exists_displayEvents` gives. -/
theorem displayEventsIgnoreThePast : Obligations.DisplayEventsIgnoreThePast := by
  intro i s s' hi hcfg
  obtain ⟨es, hes⟩ := exists_displayEvents s.cfg hi
  obtain ⟨t, ht, htrace⟩ := hes s rfl
  obtain ⟨t', ht', htrace'⟩ := hes s' hcfg.symm
  exact ⟨t, t', es, ht, ht', htrace, htrace'⟩

end Sys2Proof.Machine
end

section
/-! PROOFS. ADC_CFG (spec/41_sampler.md R125): the channel sets it rejects, and what it does with any other. -/

namespace Sys2Proof.Machine

theorem and_not_ne_zero_iff (x y : Byte) :
    x &&& ~~~y ≠ 0 ↔ ∃ n : Nat, n < 8 ∧ x.getLsbD n = true ∧ y.getLsbD n = false := by
  rw [Ne, BitVec.eq_of_getLsbD_eq_iff]
  push Not
  refine exists_congr fun n => and_congr_right fun hn => ?_
  rw [BitVec.getLsbD_and, BitVec.getLsbD_not]
  simp [hn]

/-- The sets that step 1 of ADC_CFG rejects: the empty one, and one that names an unsupported channel (R125, R172). -/
theorem badChannelSet_iff (c : Config) (chset : Byte) : badChannelSet c chset = true ↔
    chset = 0 ∨ ∃ n : Nat, n < 8 ∧ chset.getLsbD n = true ∧ c.supportedCh.getLsbD n = false := by
  rw [badChannelSet, Bool.or_eq_true, beq_iff_eq, bne_iff_ne, and_not_ne_zero_iff]

theorem execAdcCfg_of_bad {s : State} {chset : Byte} (div : Byte) (h : badChannelSet s.cfg chset = true) :
    execAdcCfg chset div s = .next (s.raise .configurationError) := by
  rw [execAdcCfg, if_pos h]

theorem execAdcCfg_of_good {s : State} {chset : Byte} (div : Byte) (h : badChannelSet s.cfg chset = false) :
    execAdcCfg chset div s =
      .next (((s.powerOn.pbSet (routeMask s.cfg chset)).writeClkdiv div).respond .ok 0) := by
  rw [execAdcCfg, if_neg (by rw [h]; exact Bool.false_ne_true)]
  rfl

/-- A routing bit after a channel set has been added (R125). -/
theorem bit_set_routeMask {c : Config} {p : Port} (hfits : c.routeShift + 7 < p.width) (chset : Byte) {n : Nat} (hn : n < 8) :
    (p.set (routeMask c chset)).bit (c.routeShift + n) = (p.bit (c.routeShift + n) || chset.getLsbD n) := by
  have hlt : c.routeShift + n < p.width := by omega
  rw [Port.bit_set_of_lt hlt, testBit_routeMask, Nat.add_sub_cancel_left, decide_eq_true (Nat.le_add_right ..), Bool.true_and]

theorem bit_set_routeMask_undriven {c : Config} {k : Nat} (hk : blockBitB c k = false) (p : Port) (chset : Byte) :
    (p.set (routeMask c chset)).bit k = p.bit k := by
  rw [Port.bit_set, testBit_routeMask_undriven hk, Bool.and_false, Bool.or_false]

/-- Settles O31: the rejection, and the configuration with PORT_B bit by bit. -/
theorem adcCfgPowersAndRoutes : Obligations.AdcCfgPowersAndRoutes := by
  intro chset div s
  rw [← badChannelSet_iff, Bool.not_eq_true]
  refine ⟨execAdcCfg_of_bad div, fun hgood => ⟨s.pb.set (routeMask s.cfg chset), execAdcCfg_of_good div hgood, ?_⟩⟩
  intro hw hwide
  have hfits : s.cfg.routeShift + 7 < s.pb.width := hwide ▸ (Config.pinFacts_of_wf hw).routesFit
  exact ⟨fun n hn => bit_set_routeMask hfits chset hn, fun k hk => bit_set_routeMask_undriven hk s.pb chset⟩

end Sys2Proof.Machine
end

section
/-! PROOFS. The trigger (spec/41_sampler.md R137, R141): the conversion it starts, and its two faults. -/

namespace Sys2Proof.Machine

theorem selectedChannel_eq_none_iff (sel : Byte) : selectedChannel sel = none ↔ ∀ c : Channel, sel ≠ oneHot c.val := by
  simp [selectedChannel]

theorem trigger_unpowered {s : State} {c : Channel} (hs : s.sel = oneHot c.val) (hp : s.pdn = false) :
    s.trigger = .fault .triggerUnpowered := by
  simp [State.trigger, hs, selectedChannel_oneHot, hp]

theorem trigger_notOneHot {s : State} (hs : ∀ c : Channel, s.sel ≠ oneHot c.val) : s.trigger = .fault .triggerNotOneHot := by
  rw [State.trigger, (selectedChannel_eq_none_iff s.sel).2 hs]

/-- Settles O38: the trigger that starts a conversion writes that conversion and takes the answer to it; the faults. -/
theorem triggerStartsOneConversion : Obligations.TriggerStartsOneConversion := by
  refine fun s => ⟨fun c hs hp => ?_, fun c hs hp => trigger_unpowered hs hp, trigger_notOneHot⟩
  obtain ⟨d, hd⟩ := takeAnswer_eq s
  refine ⟨_, trigger_eq hs hp, ?_⟩
  rw [hd]
  exact ⟨rfl, rfl, rfl, rfl, rfl, rfl, rfl, rfl, rfl, rfl, rfl, rfl, ⟨rfl, rfl⟩, ⟨rfl, rfl⟩, ⟨rfl, rfl, rfl, rfl⟩, ⟨rfl, rfl⟩⟩

end Sys2Proof.Machine
end

section
/-! PROOFS. How an ADC_READ ends (spec/41_sampler.md R126): rejected, with the sample, or by the poll limit. -/

namespace Sys2Proof.Machine

/-! ### Rejected -/

theorem badChannel_iff (s : State) (ch : Byte) : badChannel s ch = true ↔
    8 ≤ ch.toNat ∨ s.cfg.supportedCh.getLsbD ch.toNat = false ∨ s.pb.bit (s.cfg.routeShift + ch.toNat) = false := by
  by_cases hlt : ch.toNat < 8
  · simp [badChannel, State.isRouted, hlt, Nat.not_le.2 hlt]
  · simp [badChannel, Nat.le_of_not_lt hlt]

/-- Settles O34: the rejection of step 1. -/
theorem adcReadRejectsABadChannel : Obligations.AdcReadRejectsABadChannel := by
  intro ch s hbad
  change execAdcRead ch s = .next (s.raise .configurationError)
  rw [execAdcRead, if_pos ((badChannel_iff s ch).2 hbad)]

/-! ### Completed -/

theorem State.ChannelReady.exists_channel {s : State} {ch : Byte} (h : s.ChannelReady ch) :
    ∃ c : Channel, c.val = ch.toNat :=
  ⟨⟨ch.toNat, h.below⟩, rfl⟩

/-- A converter that answers before the limit gets the polls it needs (R133). -/
theorem pollTurns_of_delay_lt {limit : Option Nat} {d : Nat} (hl : ∀ n, limit = some n → d < n) :
    pollTurns limit (some d) = d + 1 := by
  cases limit with
  | none => rfl
  | some n => exact Nat.min_eq_right (hl n rfl)

/-- ADC_READ whose conversion completes before the limit ends with the completion, of the answer that the trigger took (R126,
R138). -/
theorem execAdcRead_of_delay_lt {s : State} {ch : Byte} {c : Channel} {d : Nat} (hc : c.val = ch.toNat)
    (hr : s.ChannelReady ch) (ha : s.nextAnswer.delay = some d) (hl : ∀ n, s.cfg.pollLimit = some n → d < n) :
    execAdcRead ch s = .next (finishRead ({ triggered s ch c with
      answer := { s.nextAnswer with delay := some 0 }, seq := .polling d } : State).complete) := by
  rw [execAdcRead_eq hc hr.badChannel_eq_false hr.powered, ha, pollTurns_of_delay_lt hl,
    pollLoop_completes (c := c) (p := 0) (k := d) rfl rfl rfl (by simpa [triggered] using ha) (by simpa [triggered] using hl)]
  simp [triggered]

/-- Settles O32: the read that ends with the completion. -/
theorem adcReadReturnsTheSample : Obligations.AdcReadReturnsTheSample := by
  intro ch s d hr ha hl
  obtain ⟨c, hc⟩ := hr.exists_channel
  refine ⟨_, execAdcRead_of_delay_lt hc hr ha hl, ?_⟩
  obtain ⟨e, he⟩ := triggered_eq s ch c
  rw [he, ← hc]
  exact ⟨rfl, rfl, rfl, rfl, rfl, rfl, rfl, rfl, rfl, rfl, rfl, ⟨rfl, rfl⟩, ⟨rfl, rfl⟩, ⟨rfl, rfl⟩, rfl, rfl⟩

/-! ### Timed out -/

/-- A converter that does not answer before the limit is polled up to the limit (R133, R171). -/
theorem pollTurns_of_le_delay {n : Nat} {delay : Option Nat} (ha : ∀ d, delay = some d → n ≤ d) :
    pollTurns (some n) delay = n := by
  cases delay with
  | none => rfl
  | some d => exact Nat.min_eq_left (Nat.le_succ_of_le (ha d rfl))

/-- ADC_READ whose conversion has not completed at the limit ends with the timeout (R126, R171). -/
theorem execAdcRead_of_le_delay {s : State} {ch : Byte} {c : Channel} {n : Nat} (hc : c.val = ch.toNat)
    (hr : s.ChannelReady ch) (hl : s.cfg.pollLimit = some n) (hpos : 1 ≤ n)
    (ha : ∀ d, s.nextAnswer.delay = some d → n ≤ d) :
    ∃ a q, execAdcRead ch s = .next (timeoutRead { triggered s ch c with answer := a, seq := q }) := by
  obtain ⟨r, rfl⟩ : ∃ r, n = r + 1 := ⟨n - 1, by omega⟩
  obtain ⟨a, q, hloop⟩ := pollLoop_timeout (s := { triggered s ch c with seq := .polling 0 }) (c := c) (p := 0) (r := r)
    rfl rfl rfl (by simpa [triggered] using hl) (by omega) (by simpa [triggered] using ha)
  exact ⟨a, q, by rw [execAdcRead_eq hc hr.badChannel_eq_false hr.powered, hl, pollTurns_of_le_delay ha, hloop]⟩

/-- Settles O33: the read that ends with the timeout. -/
theorem adcReadTimesOut : Obligations.AdcReadTimesOut := by
  intro ch s n hw hr hl ha
  obtain ⟨c, hc⟩ := hr.exists_channel
  obtain ⟨a, q, hread⟩ := execAdcRead_of_le_delay hc hr hl (Config.pollLimit_of_wf hw hl) ha
  refine ⟨_, hread, ?_⟩
  obtain ⟨e, he⟩ := triggered_eq s ch c
  rw [he, ← hc]
  exact ⟨rfl, rfl, rfl, rfl, rfl, rfl, rfl, rfl, rfl, rfl, rfl, ⟨rfl, rfl⟩, ⟨rfl, rfl⟩, ⟨rfl, rfl⟩, rfl, rfl⟩

end Sys2Proof.Machine
end

section
/-! PROOFS. No state leaks between reads (spec/41_sampler.md R136): SEL, START and DONE are written anew before the polls, and a
RESULT held from before is overwritten by the completion or not read at all. -/

namespace Sys2Proof.Machine

/-- The state `s` with another RESULT. -/
def State.withResult (s : State) (r : Sample) : State := { s with result := r }

@[simp] theorem State.withResult_seq (s : State) (r : Sample) : (s.withResult r).seq = s.seq := rfl

/-- How two poll loops end that begin in `u` and in `u.withResult r`: in one state and idle, by the completion; or without a
completion, and each with the RESULT it began with. -/
def EndsAlike (r : Sample) (u t t' : State) : Prop :=
  (t.done = true ∧ t.seq = .idle ∧ t' = t) ∨ (t.done = false ∧ t.result = u.result ∧ t' = t.withResult r)

/-- The converter's turn does not look at RESULT (R138, R139). -/
theorem converterTurn_withResult (u : State) (r : Sample) :
    (u.converterTurn = u.complete ∧ (u.withResult r).converterTurn = u.complete)
      ∨ ∃ a, u.converterTurn = { u with answer := a }
        ∧ (u.withResult r).converterTurn = ({ u with answer := a } : State).withResult r := by
  unfold State.converterTurn State.withResult
  dsimp only
  split
  · exact .inr ⟨u.answer, rfl, rfl⟩
  · exact .inr ⟨u.answer, rfl, rfl⟩
  · exact .inl ⟨rfl, rfl⟩
  · exact .inr ⟨_, rfl, rfl⟩

/-- A poll that reads 0 below the limit (R133). -/
theorem pollOnce_goes_on {s : State} {p : Nat} (hd : s.converterTurn.done = false) (hl : s.cfg.pollLimit ≠ some (p + 1)) :
    pollOnce s p = { s.converterTurn with seq := .polling (p + 1) } := by
  simp [pollOnce, hd, hl]

theorem pollOnce_endsAlike {u : State} (hd : u.done = false) (r : Sample) (p : Nat) :
    EndsAlike r u (pollOnce u p) (pollOnce (u.withResult r) p) := by
  rcases converterTurn_withResult u r with ⟨h, h'⟩ | ⟨a, h, h'⟩
  · left
    rw [pollOnce, pollOnce, h, h']
    exact ⟨rfl, rfl, rfl⟩
  · right
    have hturn : u.converterTurn.done = false := by rw [h]; exact hd
    have hturn' : (u.withResult r).converterTurn.done = false := by rw [h']; exact hd
    by_cases hl : u.cfg.pollLimit = some (p + 1)
    · rw [pollOnce_timeout hturn hl, pollOnce_timeout hturn' hl, h, h']
      exact ⟨hd, rfl, rfl⟩
    · rw [pollOnce_goes_on hturn hl, pollOnce_goes_on hturn' hl, h, h']
      exact ⟨hd, rfl, rfl⟩

theorem pollLoop_of_idle {s : State} (hq : s.seq = .idle) (n : Nat) : pollLoop n s = s := by
  cases n with
  | zero => rfl
  | succ n => rw [pollLoop, hq]

theorem pollLoop_endsAlike (n : Nat) {u : State} (hd : u.done = false) (r : Sample) :
    EndsAlike r u (pollLoop n u) (pollLoop n (u.withResult r)) := by
  induction n generalizing u with
  | zero => exact .inr ⟨hd, rfl, rfl⟩
  | succ n ih =>
    rw [pollLoop, pollLoop, State.withResult_seq]
    cases u.seq with
    | idle => exact .inr ⟨hd, rfl, rfl⟩
    | polling p =>
      dsimp only
      rcases pollOnce_endsAlike hd r p with ⟨hdone, hidle, heq⟩ | ⟨hdone, hres, heq⟩
      · rw [heq, pollLoop_of_idle hidle]
        exact .inl ⟨hdone, hidle, rfl⟩
      · rw [heq, EndsAlike, ← hres]
        exact ih hdone

/-- Of what SEL, START, DONE and RESULT held before ADC_READ, RESULT alone is still there when its polls begin (R126, R127,
R137). -/
theorem execAdcRead_of_stale_registers {s : State} {ch : Byte} {c : Channel} (hc : c.val = ch.toNat) (hr : s.ChannelReady ch)
    (sel : Byte) (start done : Bool) (r : Sample) :
    execAdcRead ch { s with sel := sel, start := start, done := done, result := r } =
      .next (pollLoop (pollTurns s.cfg.pollLimit s.nextAnswer.delay)
        (({ triggered s ch c with seq := .polling 0 } : State).withResult r)) := by
  have hstale : ({ triggered { s with sel := sel, start := start, done := done, result := r } ch c with
      seq := .polling 0 } : State) = ({ triggered s ch c with seq := .polling 0 } : State).withResult r := by
    simp only [triggered, State.takeAnswer, State.withResult]
    split <;> rfl
  rw [← hstale]
  exact execAdcRead_eq hc hr.badChannel_eq_false hr.powered

/-- Settles O37: the two poll loops begin in states that differ in RESULT alone, and so end alike. -/
theorem adcReadIgnoresStaleRegisters : Obligations.AdcReadIgnoresStaleRegisters := by
  intro ch s sel start done result hr
  obtain ⟨c, hc⟩ := hr.exists_channel
  refine ⟨_, _, execAdcRead_eq hc hr.badChannel_eq_false hr.powered,
    execAdcRead_of_stale_registers hc hr sel start done result, ?_⟩
  have hends := pollLoop_endsAlike (pollTurns s.cfg.pollLimit s.nextAnswer.delay)
    (u := { triggered s ch c with seq := .polling 0 }) rfl result
  have hbefore : ({ triggered s ch c with seq := .polling 0 } : State).result = s.result := by simp [triggered]
  rcases hends with ⟨hdone, -, heq⟩ | ⟨hdone, hres, heq⟩
  · rw [heq]
    exact ⟨rfl, rfl, rfl, rfl, rfl, rfl, fun _ => rfl, fun h => Bool.noConfusion (hdone.symm.trans h)⟩
  · rw [heq]
    exact ⟨rfl, rfl, rfl, rfl, rfl, rfl, fun h => Bool.noConfusion (hdone.symm.trans h), fun _ => ⟨hres.trans hbefore, rfl⟩⟩

end Sys2Proof.Machine
end

section
/-! PROOFS. Which operations write the sampler (spec/41_sampler.md R125, R140, spec/60_exceptions.md R191): ADC_CFG its power,
divisor and routing, ADC_READ the rest, and RESULT in a completion only. -/

namespace Sys2Proof.Machine

/-- The power, the divisor and the routing of the sampler are unchanged. -/
def SetupKept (s t : State) : Prop :=
  t.pdn = s.pdn ∧ t.clkdiv = s.clkdiv ∧ t.pb = s.pb

theorem SameSampler.setupKept {s t : State} (h : SameSampler s t) : SetupKept s t :=
  ⟨h.pdn, h.clkdiv, h.pb⟩

theorem Answered.sameSampler {s t : State} (h : Answered s t) : SameSampler s t := by
  obtain ⟨n, r, rfl, -⟩ := h
  exact ⟨rfl, rfl, rfl, rfl, rfl, rfl, rfl, rfl⟩

theorem Displayed.sameSampler {s t : State} (h : Displayed s t) : SameSampler s t := by
  obtain ⟨waits, items, l1, l2, l3, l4, d, r, rfl⟩ := h
  exact ⟨rfl, rfl, rfl, rfl, rfl, rfl, rfl, rfl⟩

theorem Transitioned.sameSampler {s t : State} (h : Transitioned s t) : SameSampler s t := by
  obtain ⟨a, items, l1, l2, l3, l4, d, r, rfl⟩ := h
  exact ⟨rfl, rfl, rfl, rfl, rfl, rfl, rfl, rfl⟩

/-- ADC_READ keeps the setup, and RESULT unless it completes (R126, R140). -/
theorem Sampled.keeps_setup_and_result {s t : State} (h : Sampled s t) :
    SetupKept s t ∧ (t.result = s.result ∨ t.done = true) := by
  obtain ⟨ch, c, -, -, -, hend⟩ := h
  obtain ⟨e, he⟩ := triggered_eq s ch c
  rw [he] at hend
  obtain ⟨a, q, rfl⟩ | ⟨a, q, rfl⟩ | ⟨-, k, rfl⟩ := hend
  · exact ⟨⟨rfl, rfl, rfl⟩, .inr rfl⟩
  · exact ⟨⟨rfl, rfl, rfl⟩, .inl rfl⟩
  · exact ⟨⟨rfl, rfl, rfl⟩, .inl rfl⟩

theorem execAdcRead_keeps_setup_and_result {ch : Byte} {s t : State} (h : execAdcRead ch s = .next t) :
    SetupKept s t ∧ (t.result = s.result ∨ t.done = true) := by
  rcases execAdcRead_cases h with rfl | ⟨c, hc, hr, hp, hend⟩
  · exact ⟨⟨rfl, rfl, rfl⟩, .inl rfl⟩
  · exact Sampled.keeps_setup_and_result ⟨ch, c, hc, hr, hp, hend⟩

theorem execAdcCfg_result {chset div : Byte} {s t : State} (h : execAdcCfg chset div s = .next t) : t.result = s.result := by
  rcases execAdcCfg_cases h with h | ⟨_, _, _, -, rfl⟩
  · exact h.sameSampler.result
  · rfl

/-- An operation of another family leaves the sampler as it was (R191). -/
theorem exec_sameSampler {i : Instr} {s t : State} (hcfg : ∀ chset div, i ≠ .adcCfg chset div) (hread : ∀ ch, i ≠ .adcRead ch)
    (h : exec i s = .next t) : SameSampler s t := by
  cases i with
  | lcdInit =>
    obtain rfl := Host.Outcome.next.inj ((execLcdInit_eq s).symm.trans h)
    exact ⟨rfl, rfl, rfl, rfl, rfl, rfl, rfl, rfl⟩
  | lcdCmd b => rw [← Host.Outcome.next.inj h]; exact (byteAndSettle_displayed s false b).sameSampler
  | lcdData b => rw [← Host.Outcome.next.inj h]; exact (byteAndSettle_displayed s true b).sameSampler
  | adcCfg chset div => exact absurd rfl (hcfg chset div)
  | adcRead ch => exact absurd rfl (hread ch)
  | alertObs b => exact (execAlertObs_cases h).elim Answered.sameSampler Transitioned.sameSampler
  | alertAck => exact (execAlertAck_cases h).elim Answered.sameSampler Transitioned.sameSampler

/-- An operation that leaves another RESULT is an ADC_READ that has completed its conversion (R140). -/
theorem adcRead_of_result_ne {i : Instr} {s t : State} (h : exec i s = .next t) (hne : t.result ≠ s.result) :
    (∃ ch, i = .adcRead ch) ∧ t.done = true := by
  by_cases hread : ∃ ch, i = .adcRead ch
  · obtain ⟨ch, rfl⟩ := hread
    exact ⟨⟨ch, rfl⟩, (execAdcRead_keeps_setup_and_result h).2.resolve_left hne⟩
  · refine absurd ?_ hne
    by_cases hcfg : ∃ chset div, i = .adcCfg chset div
    · obtain ⟨chset, div, rfl⟩ := hcfg
      exact execAdcCfg_result h
    · exact (exec_sameSampler (fun chset div hi => hcfg ⟨chset, div, hi⟩) (fun ch hi => hread ⟨ch, hi⟩) h).result

/-- Settles O39: the operations that leave RESULT, and START <- 0 as the model writes it. -/
theorem resultChangesOnlyAtACompletion : Obligations.ResultChangesOnlyAtACompletion :=
  ⟨fun _ _ _ => adcRead_of_result_ne, fun _ => rfl⟩

theorem exec_setupKept {i : Instr} {s t : State} (hcfg : ∀ chset div, i ≠ .adcCfg chset div) (h : exec i s = .next t) :
    SetupKept s t := by
  by_cases hread : ∃ ch, i = .adcRead ch
  · obtain ⟨ch, rfl⟩ := hread
    exact (execAdcRead_keeps_setup_and_result h).1
  · exact (exec_sameSampler hcfg (fun ch hi => hread ⟨ch, hi⟩) h).setupKept

/-- An operation keeps the setup, or is an ADC_CFG that was accepted (R125). -/
theorem exec_setupKept_or_configured {i : Instr} {s t : State} (h : exec i s = .next t) : SetupKept s t ∨ Configured s t := by
  by_cases hcfg : ∃ chset div, i = .adcCfg chset div
  · obtain ⟨chset, div, rfl⟩ := hcfg
    exact (execAdcCfg_cases h).imp_left fun ha => ha.sameSampler.setupKept
  · exact .inl (exec_setupKept (fun chset div hi => hcfg ⟨chset, div, hi⟩) h)

/-- Settles O40: what keeps the setup undoes nothing, and an accepted ADC_CFG only sets. -/
theorem onlyAdcCfgPowersAndRoutes : Obligations.OnlyAdcCfgPowersAndRoutes := by
  refine fun i s t h => ⟨fun hcfg => exec_setupKept hcfg h, ?_⟩
  rcases exec_setupKept_or_configured h with ⟨hpdn, -, hpb⟩ | ⟨chset, div, r, -, rfl⟩
  · exact ⟨fun hp => hpdn.trans hp, fun c hr => (isRouted_congr (exec_cfg h) hpb c).trans hr⟩
  · exact ⟨fun _ => rfl, fun c hr => isRouted_of_pbSet (s := s) rfl rfl hr⟩

end Sys2Proof.Machine
end

section
/-! PROOFS. The voltage of a sample (spec/41_sampler.md R142). -/

namespace Sys2Proof.Machine

/-- 3.3 volts over 4095 in lowest terms (R142). -/
theorem volt_eq (s : Sample) : volt s = (s.toNat : Rat) * 11 / 13650 := by
  rw [volt, Config.vref, Config.maxSample]
  ring

theorem volt_lt_volt {a b : Sample} (h : a.toNat < b.toNat) : volt a < volt b := by
  have hcast : (a.toNat : Rat) < b.toNat := by exact_mod_cast h
  rw [volt_eq, volt_eq]
  linarith

/-- Full scale is 4095, the largest sample (R142). -/
theorem volt_le_vref (s : Sample) : volt s ≤ 33 / 10 := by
  have hcast : (s.toNat : Rat) ≤ 4095 := by exact_mod_cast Nat.le_of_lt_succ s.isLt
  rw [volt_eq]
  linarith

theorem volt_nonneg (s : Sample) : 0 ≤ volt s := by
  rw [volt_eq]
  positivity

/-- Settles O41: the scaling in lowest terms, its bounds and growth, and the three fixtures. -/
theorem voltageScaling : Obligations.VoltageScaling := by
  have hzero : (0 : Sample).toNat = 0 := rfl
  have hfull : (4095 : Sample).toNat = 4095 := rfl
  have hmid : (2048 : Sample).toNat = 2048 := rfl
  refine ⟨fun s => ⟨volt_eq s, volt_nonneg s, volt_le_vref s⟩, fun a b => volt_lt_volt, ?_, ?_, ?_⟩
  · norm_num [volt_eq, hzero]
  · norm_num [volt_eq, hfull]
  · norm_num [volt_eq, hmid]

end Sys2Proof.Machine
end

section
/-! PROOFS. The Alert Machine (spec/42_alert.md R151 to R164): what an observation or an acknowledgement leaves when a hook runs
and when none does, the response it gives, and the hysteresis. -/

namespace Sys2Proof.Machine

/-! ### The hooks -/

/-- The buzzer event of a hook (R156): on in Alert, off in Quiescent. -/
def buzzerEvent (c : Config) : AlertState → Event
  | .alert => .paSet (buzzMask c)
  | .quiescent => .paClr (buzzMask c)

/-- The events of a hook (R156): its script, then the buzzer. -/
def hookEvents (c : Config) (a : AlertState) (items : List ScriptItem) : List Event :=
  scriptEvents c items ++ [buzzerEvent c a]

/-- From `s` the block has entered the state `a`, with the hook whose script is `items`, and has answered `transitioned` (R152,
R154, R156, R158, R164). -/
structure Enters (a : AlertState) (items : List ScriptItem) (s t : State) : Prop where
  alertState : t.alertState = a
  persistCnt : t.persistCnt = 0
  trace : t.trace = s.trace ++ hookEvents s.cfg a items
  pa : t.pa = runLatch s.pa (hookEvents s.cfg a items)
  rsps : t.rsps = s.rsps ++ [responseWord .ok (alertValue a true)]
  seq : t.seq = .idle
  rsMode : t.rsMode = scriptMode items s.rsMode
  sampler : SameSampler s t
  host : SameHost s t
  oracles : SameOracles s t

/-- After a hook the buzzer is on exactly in Alert (R156); that the latch holds the line matters for switching it on alone. -/
theorem Enters.buzzer {a : AlertState} {items : List ScriptItem} {s t : State} (h : Enters a items s t)
    (hb : a = .alert → s.cfg.buzzBit < s.pa.width) : t.pa.bit s.cfg.buzzBit = a.bit := by
  rw [h.pa, hookEvents, runLatch_append]
  cases a with
  | alert => simp [buzzerEvent, latchAfter, Port.bit_set, testBit_buzzMask, AlertState.bit, hb rfl]
  | quiescent => simp [buzzerEvent, latchAfter, Port.bit_clr, testBit_buzzMask, AlertState.bit]

/-- A hook and its answer as one update of the state: whatever is left in the dead operand latches (R21), the state is entered. -/
theorem enters_of_update (a : AlertState) (items : List ScriptItem) (s : State) (l1 : Byte) (l2 : Bool) (l3 : Nibble)
    (l4 : Byte) (d : Nat) : Enters a items s { s with
      alertState := a, persistCnt := 0
      rsMode := scriptMode items s.rsMode
      pa := latchAfter (runLatch s.pa (scriptEvents s.cfg items)) (buzzerEvent s.cfg a)
      trace := s.trace ++ hookEvents s.cfg a items
      lcdByte := l1, lcdMode := l2, nib := l3, ch := l4, draws := d
      rsps := s.rsps ++ [responseWord .ok (alertValue a true)], seq := .idle } where
  alertState := rfl
  persistCnt := rfl
  trace := rfl
  pa := by rw [hookEvents, runLatch_append]; rfl
  rsps := rfl
  seq := rfl
  rsMode := rfl
  sampler := ⟨rfl, rfl, rfl, rfl, rfl, rfl, rfl, rfl⟩
  host := ⟨rfl, rfl⟩
  oracles := ⟨rfl, rfl, rfl⟩

theorem onAlertEntered_enters (s : State) :
    Enters .alert s.cfg.msgAlert s (respondAlert (onAlertEntered (s.enterAlertState .alert)) true) := by
  obtain ⟨l1, l2, l3, l4, d, h⟩ := onAlertEntered_cases (s.enterAlertState .alert)
  rw [h]
  exact enters_of_update .alert s.cfg.msgAlert s l1 l2 l3 l4 d

theorem onAlertCleared_enters (s : State) :
    Enters .quiescent s.cfg.msgClear s (respondAlert (onAlertCleared (s.enterAlertState .quiescent)) true) := by
  obtain ⟨l1, l2, l3, l4, d, h⟩ := onAlertCleared_cases (s.enterAlertState .quiescent)
  rw [h]
  exact enters_of_update .quiescent s.cfg.msgClear s l1 l2 l3 l4 d

theorem onAcknowledged_enters (s : State) :
    Enters .quiescent s.cfg.msgAck s (respondAlert (onAcknowledged (s.enterAlertState .quiescent)) true) := by
  obtain ⟨l1, l2, l3, l4, d, h⟩ := onAcknowledged_cases (s.enterAlertState .quiescent)
  rw [h]
  exact enters_of_update .quiescent s.cfg.msgAck s l1 l2 l3 l4 d

/-! ### The operations, case by case -/

/-- The block answers with its state and no transition, and nothing but the counter has changed (R153, R155, R164). -/
def stays (s : State) (n : Count) : State :=
  { s with persistCnt := n, rsps := s.rsps ++ [responseWord .ok (alertValue s.alertState false)], seq := .idle }

theorem exec_alertObs_true_of_quiescent {s : State} (hs : s.alertState = .quiescent) :
    ∃ t, exec (.alertObs true) s = .next t ∧ Enters .alert s.cfg.msgAlert s t :=
  ⟨_, by simp only [exec, execAlertObs, hs], onAlertEntered_enters s⟩

theorem exec_alertObs_false_of_quiescent {s : State} (hs : s.alertState = .quiescent) :
    exec (.alertObs false) s = .next (stays s s.persistCnt) := by
  simp only [exec, execAlertObs, hs]
  rfl

theorem exec_alertObs_true_of_alert {s : State} (hs : s.alertState = .alert) :
    exec (.alertObs true) s = .next (stays s 0) := by
  simp only [exec, execAlertObs, respondAlert, State.respond, stays, hs]

/-- A false observation in Alert below the threshold counts (R153(b)). -/
theorem exec_alertObs_false_of_lt {s : State} (hs : s.alertState = .alert)
    (hlt : (s.persistCnt + 1).toNat < s.cfg.threshold) :
    exec (.alertObs false) s = .next (stays s (s.persistCnt + 1)) := by
  simp only [exec, execAlertObs, hs]
  simp only [observeFalseInAlert, if_neg (Nat.not_le.2 hlt)]
  rfl

/-- A false observation in Alert that reaches the threshold disarms (R154). -/
theorem exec_alertObs_false_of_le {s : State} (hs : s.alertState = .alert)
    (hle : s.cfg.threshold ≤ (s.persistCnt + 1).toNat) :
    ∃ t, exec (.alertObs false) s = .next t ∧ Enters .quiescent s.cfg.msgClear s t := by
  refine ⟨_, ?_, onAlertCleared_enters s⟩
  simp only [exec, execAlertObs, hs]
  simp only [observeFalseInAlert, if_pos hle]
  rfl

theorem exec_alertAck_of_alert {s : State} (hs : s.alertState = .alert) :
    ∃ t, exec .alertAck s = .next t ∧ Enters .quiescent s.cfg.msgAck s t :=
  ⟨_, by simp only [exec, execAlertAck, hs], onAcknowledged_enters s⟩

theorem exec_alertAck_of_quiescent {s : State} (hs : s.alertState = .quiescent) :
    exec .alertAck s = .next (stays s s.persistCnt) := by
  simp only [exec, execAlertAck, hs]
  rfl

theorem stays_of_alert {s : State} (hs : s.alertState = .alert) (n : Count) :
    stays s n = { s with persistCnt := n, rsps := s.rsps ++ [0x0001#16], seq := .idle } := by
  rw [stays, hs]
  rfl

theorem stays_of_quiescent {s : State} (hs : s.alertState = .quiescent) :
    stays s s.persistCnt = { s with rsps := s.rsps ++ [0x0000#16], seq := .idle } := by
  rw [stays, hs]
  rfl

/-! ### Arming and disarming -/

/-- Settles O42: what entering Alert leaves; the buzzer line is one of the latch's by well-formedness. -/
theorem trueObservationArms : Obligations.TrueObservationArms := by
  intro s hs
  obtain ⟨t, ht, h⟩ := exec_alertObs_true_of_quiescent hs
  refine ⟨t, ht, h.alertState, h.persistCnt, h.trace, h.pa, h.rsps, h.seq, h.rsMode, fun hw hwide => ?_, h.sampler, h.host,
    h.oracles⟩
  exact h.buzzer fun _ => by rw [hwide]; exact (Config.pinFacts_of_wf hw).buzzFits

/-- Settles O44: what entering Quiescent with the clear script leaves. -/
theorem persistentFalseObservationDisarms : Obligations.PersistentFalseObservationDisarms := by
  intro s hs hle
  obtain ⟨t, ht, h⟩ := exec_alertObs_false_of_le hs hle
  exact ⟨t, ht, h.alertState, h.persistCnt, h.trace, h.pa, h.rsps, h.seq, h.rsMode, h.buzzer nofun, h.sampler, h.host,
    h.oracles⟩

/-- Settles O46: what entering Quiescent with the acknowledge script leaves, and the answer in Quiescent. -/
theorem acknowledgementDisarmsAtOnce : Obligations.AcknowledgementDisarmsAtOnce := by
  refine fun s => ⟨fun hs => ?_, fun hs => ?_⟩
  · obtain ⟨t, ht, h⟩ := exec_alertAck_of_alert hs
    exact ⟨t, ht, h.alertState, h.persistCnt, h.trace, h.pa, h.rsps, h.seq, h.rsMode, h.buzzer nofun, h.sampler, h.host,
      h.oracles⟩
  · rw [exec_alertAck_of_quiescent hs, stays_of_quiescent hs]

/-! ### Observations without a transition -/

/-- Settles O43: the counter is reset, or counts, and the answer is Alert without a transition. -/
theorem observationsThatStayInAlert : Obligations.ObservationsThatStayInAlert := by
  refine fun s hs => ⟨?_, fun hlt => ?_⟩
  · rw [exec_alertObs_true_of_alert hs, stays_of_alert hs]
  · rw [exec_alertObs_false_of_lt hs hlt, stays_of_alert hs]

/-- Settles O45: the answer is Quiescent without a transition, and the counter keeps its value. -/
theorem falseObservationInQuiescentChangesNothing : Obligations.FalseObservationInQuiescentChangesNothing := by
  intro s hs
  rw [exec_alertObs_false_of_quiescent hs, stays_of_quiescent hs]

/-! ### The response -/

/-- How an Alert Machine operation ends (R162): the state is kept, or the other one is entered. -/
def StaysOrEnters (s t : State) : Prop :=
  (∃ n, t = stays s n) ∨ ∃ a items, a ≠ s.alertState ∧ Enters a items s t

theorem Enters.staysOrEnters {a : AlertState} {items : List ScriptItem} {s t : State} (h : Enters a items s t)
    (ha : a ≠ s.alertState) : StaysOrEnters s t :=
  .inr ⟨a, items, ha, h⟩

theorem exec_alertObs_staysOrEnters (b : Bool) (s : State) : ∃ t, exec (.alertObs b) s = .next t ∧ StaysOrEnters s t := by
  cases hs : s.alertState <;> cases b
  case quiescent.false => exact ⟨_, exec_alertObs_false_of_quiescent hs, .inl ⟨_, rfl⟩⟩
  case quiescent.true =>
    obtain ⟨t, ht, h⟩ := exec_alertObs_true_of_quiescent hs
    exact ⟨t, ht, h.staysOrEnters (by simp [hs])⟩
  case alert.true => exact ⟨_, exec_alertObs_true_of_alert hs, .inl ⟨_, rfl⟩⟩
  case alert.false =>
    rcases Nat.lt_or_ge (s.persistCnt + 1).toNat s.cfg.threshold with hlt | hle
    · exact ⟨_, exec_alertObs_false_of_lt hs hlt, .inl ⟨_, rfl⟩⟩
    · obtain ⟨t, ht, h⟩ := exec_alertObs_false_of_le hs hle
      exact ⟨t, ht, h.staysOrEnters (by simp [hs])⟩

theorem exec_alertAck_staysOrEnters (s : State) : ∃ t, exec .alertAck s = .next t ∧ StaysOrEnters s t := by
  cases hs : s.alertState with
  | quiescent => exact ⟨_, exec_alertAck_of_quiescent hs, .inl ⟨_, rfl⟩⟩
  | alert =>
    obtain ⟨t, ht, h⟩ := exec_alertAck_of_alert hs
    exact ⟨t, ht, h.staysOrEnters (by simp [hs])⟩

/-- The bits of an Alert Machine response (R164): the state, the transition, and zeros. -/
theorem alertResponse_bits (a : AlertState) (transitioned : Bool) :
    let r := responseWord .ok (alertValue a transitioned)
    r.getLsbD 0 = a.bit ∧ r.getLsbD 1 = transitioned
      ∧ (r = 0x0000#16 ∨ r = 0x0001#16 ∨ r = 0x0002#16 ∨ r = 0x0003#16) := by
  cases a <;> cases transitioned <;> decide

theorem AlertState.bit_iff (a : AlertState) : a.bit = true ↔ a = .alert := by
  cases a <;> decide

/-- Settles O49: the response of either outcome, bit by bit. -/
theorem alertResponsesSayTheStateAndTheTransition : Obligations.AlertResponsesSayTheStateAndTheTransition := by
  intro i s hi
  have hends : ∃ t, exec i s = .next t ∧ StaysOrEnters s t := by
    rcases hi with ⟨b, rfl⟩ | rfl
    · exact exec_alertObs_staysOrEnters b s
    · exact exec_alertAck_staysOrEnters s
  obtain ⟨t, ht, ⟨n, rfl⟩ | ⟨a, items, hne, h⟩⟩ := hends
  · obtain ⟨hstate, htrans, hword⟩ := alertResponse_bits s.alertState false
    refine ⟨_, _, ht, rfl, rfl, ?_, ?_, hword⟩
    · rw [hstate, AlertState.bit_iff]; rfl
    · rw [htrans]; exact iff_of_false Bool.false_ne_true (fun hne => hne rfl)
  · obtain ⟨hstate, htrans, hword⟩ := alertResponse_bits a true
    refine ⟨t, _, ht, h.rsps, h.seq, ?_, ?_, hword⟩
    · rw [hstate, AlertState.bit_iff, h.alertState]
    · rw [htrans, h.alertState]; exact iff_of_true rfl hne

/-! ### The hysteresis -/

/-- A list of operations is run part by part (R88). -/
theorem runOps_append {is : List Instr} {s t : State} (h : runOps is s = .next t) (js : List Instr) :
    runOps (is ++ js) s = runOps js t := by
  induction is generalizing s with
  | nil => rw [Host.Outcome.next.inj h]; rfl
  | cons i is ih =>
    rw [List.cons_append]
    cases hi : exec i s with
    | next u =>
      simp only [runOps, hi] at h ⊢
      exact ih h
    | fault r => simp [runOps, hi] at h
    | refused r => simp [runOps, hi] at h

theorem runOps_singleton {i : Instr} {s t : State} (h : exec i s = .next t) : runOps [i] s = .next t := by
  rw [runOps, h]
  rfl

/-- Below its top the counter does not wrap (R32). -/
theorem toNat_add_one_of_lt {n : Count} (h : n.toNat < 65535) : (n + 1).toNat = n.toNat + 1 :=
  BitVec.toNat_add_of_lt (by simpa using Nat.succ_lt_succ h)

/-- False observations that stay below the threshold count, and do nothing else (R153(b), R163). -/
theorem runOps_false_below_threshold {s : State} (hs : s.alertState = .alert) (hthr : s.cfg.threshold ≤ 65535) (k : Nat)
    (hk : s.persistCnt.toNat + k < s.cfg.threshold) :
    ∃ n q, n.toNat = s.persistCnt.toNat + k ∧ runOps (List.replicate k (.alertObs false)) s =
      .next { s with persistCnt := n, rsps := s.rsps ++ List.replicate k 0x0001#16, seq := q } := by
  induction k generalizing s with
  | zero => exact ⟨s.persistCnt, s.seq, rfl, by simp [runOps]⟩
  | succ k ih =>
    have hcount : (s.persistCnt + 1).toNat = s.persistCnt.toNat + 1 := toNat_add_one_of_lt (by omega)
    have hfirst := exec_alertObs_false_of_lt hs (by omega)
    rw [stays_of_alert hs] at hfirst
    obtain ⟨n, q, hn, hrun⟩ := ih (s := { s with
      persistCnt := s.persistCnt + 1, rsps := s.rsps ++ [0x0001#16], seq := .idle }) hs hthr (by simp only [hcount]; omega)
    refine ⟨n, q, by simp only [hcount] at hn; omega, ?_⟩
    rw [List.replicate_succ, ← List.singleton_append, runOps_append (runOps_singleton hfirst), hrun]
    simp [List.replicate_succ]

/-- Settles O48: the observations below the threshold count, and one more after THRESHOLD - 1 of them disarms. -/
theorem hysteresisOfTheAlertMachine : Obligations.HysteresisOfTheAlertMachine := by
  intro s hw hs hzero
  obtain ⟨hpos, hthr⟩ := Config.threshold_of_wf hw
  have hcounts : ∀ k, k < s.cfg.threshold → ∃ n q, n.toNat = k ∧ runOps (List.replicate k (.alertObs false)) s =
      .next { s with persistCnt := n, rsps := s.rsps ++ List.replicate k 0x0001#16, seq := q } := by
    intro k hk
    simpa [hzero] using runOps_false_below_threshold hs hthr k (by simpa [hzero] using hk)
  constructor
  · intro k hk
    obtain ⟨n, q, hn, hrun⟩ := hcounts k hk
    exact ⟨_, hrun, hs, hn, rfl, rfl, rfl⟩
  · obtain ⟨n, q, hn, hrun⟩ := hcounts (s.cfg.threshold - 1) (by omega)
    have hcount : (n + 1).toNat = s.cfg.threshold := by rw [toNat_add_one_of_lt] <;> omega
    obtain ⟨t, ht, h⟩ := exec_alertObs_false_of_le (s := { s with
      persistCnt := n, rsps := s.rsps ++ List.replicate (s.cfg.threshold - 1) 0x0001#16, seq := q }) hs hcount.ge
    refine ⟨t, ?_, h.alertState, h.persistCnt, h.trace, ?_⟩
    · have hsplit : List.replicate s.cfg.threshold (Instr.alertObs false)
          = List.replicate (s.cfg.threshold - 1) (.alertObs false) ++ [.alertObs false] := by
        rw [← List.replicate_succ', Nat.sub_add_cancel hpos]
      rw [hsplit, runOps_append hrun, runOps_singleton ht]
    · rw [h.rsps, List.append_assoc]
      rfl

/-! ### The scripts -/

/-- Settles O47: the script as one update of the state, its strobes and its lines. -/
theorem scriptsAreSentLikeRequests : Obligations.ScriptsAreSentLikeRequests := by
  intro s items hready
  have hpins := Config.pinFacts_of_wf hready.cfgWellFormed
  obtain ⟨l1, l2, l3, l4, d, h⟩ := runScript_cases s items
  have hempty : items = [] → runScript s items = s := fun hnil => by rw [hnil]; rfl
  refine ⟨runScript_trace s items, strobes_scriptEvents hpins s.pa hready.wide items, ?_⟩
  rw [h] at hempty ⊢
  exact ⟨enLow_after_script hpins s.pa hready.wide hready.enLow items, rs_after_script hpins s.pa hready.wide items, rfl,
    fun _ => bit_runLatch_script_other hpins s.pa hready.wide items, buzz_after_script hpins s.pa hready.wide items, rfl, rfl,
    rfl, ⟨rfl, rfl, rfl, rfl, rfl, rfl, rfl, rfl⟩, ⟨rfl, rfl⟩, ⟨rfl, rfl⟩, ⟨rfl, rfl, rfl⟩, hempty⟩

end Sys2Proof.Machine
end

section
/-! PROOFS. The operations that always answer (spec/60_exceptions.md R171, R174, R182, R183): ADC_READ once when its polls are
limited, the display and Alert Machine operations with OK. -/

namespace Sys2Proof.Machine

/-! ### ADC_READ under a finite limit -/

/-- The polls begin before any response (R126 steps 2 to 4). -/
@[simp] theorem triggered_rsps (s : State) (ch : Byte) (c : Channel) : (triggered s ch c).rsps = s.rsps := by
  obtain ⟨d, h⟩ := triggered_eq s ch c
  rw [h]

/-- The completion answers OK with the sample, and leaves the block idle (R126 steps 6 to 8). -/
theorem finishRead_answers (s : State) :
    (finishRead s).seq = .idle ∧ (finishRead s).rsps = s.rsps ++ [responseWord .ok s.result] :=
  ⟨rfl, rfl⟩

/-- The timeout answers SamplerTimeout, and leaves the block idle (R126 step 5, R171). -/
theorem timeoutRead_answers (s : State) :
    (timeoutRead s).seq = .idle ∧ (timeoutRead s).rsps = s.rsps ++ [responseWord .samplerTimeout 0] :=
  ⟨rfl, rfl⟩

/-- Settles O36: of the ways an ADC_READ can go, staying at the poll is the one without an answer, and it needs a limit that is
not positive, which a well-formed configuration excludes. -/
theorem finiteLimitAlwaysAnswers : Obligations.FiniteLimitAlwaysAnswers := by
  intro ch s t n hw hl h
  have hpos : 1 ≤ n := Config.pollLimit_of_wf hw hl
  rcases execAdcRead_cases h with rfl | ⟨c, -, -, -, ⟨a, q, rfl⟩ | ⟨a, q, rfl⟩ | ⟨hzero, -⟩⟩
  · exact ⟨rfl, _, rfl⟩
  · obtain ⟨hseq, hrsps⟩ :=
      finishRead_answers ({ triggered s ch c with answer := a, seq := q } : State).complete
    exact ⟨hseq, _, by rw [hrsps, State.complete_rsps, triggered_rsps]⟩
  · obtain ⟨hseq, hrsps⟩ := timeoutRead_answers { triggered s ch c with answer := a, seq := q }
    exact ⟨hseq, _, by rw [hrsps, triggered_rsps]⟩
  · exact absurd (hzero n hl) (Nat.one_le_iff_ne_zero.1 hpos)

/-! ### The display and the Alert Machine -/

/-- From `s` to `t` the block has given one response, and its status is OK. -/
def AnswersOk (s t : State) : Prop :=
  ∃ v, t.rsps = s.rsps ++ [responseWord .ok v]

/-- Whether the state is kept or a hook has run its script, the answer is OK (R183). -/
theorem StaysOrEnters.answersOk {s t : State} (h : StaysOrEnters s t) : AnswersOk s t := by
  obtain ⟨n, rfl⟩ | ⟨a, items, -, henters⟩ := h
  · exact ⟨alertValue s.alertState false, rfl⟩
  · exact ⟨alertValue a true, henters.rsps⟩

/-- A byte that has been sent is answered OK, whatever is on the lines (R182). -/
theorem byteSent_answersOk (s : State) (m : Bool) (b : Byte) : AnswersOk s (byteSent s m b) :=
  ⟨0, (byteSent_answers s m b).1⟩

/-- Settles O54: the answer of each of the five operations. -/
theorem displayAndAlertOperationsAnswerOk : Obligations.DisplayAndAlertOperationsAnswerOk := by
  intro i s hi
  suffices hanswer : ∃ t, exec i s = .next t ∧ AnswersOk s t by
    obtain ⟨t, ht, v, hv⟩ := hanswer
    exact ⟨t, v, ht, hv⟩
  rcases hi with rfl | ⟨b, rfl⟩ | ⟨b, rfl⟩ | ⟨b, rfl⟩ | rfl
  · exact ⟨_, execLcdInit_eq s, 0, rfl⟩
  · exact ⟨_, exec_lcdCmd_eq b s, byteSent_answersOk s false b⟩
  · exact ⟨_, exec_lcdData_eq b s, byteSent_answersOk s true b⟩
  · obtain ⟨t, ht, hends⟩ := exec_alertObs_staysOrEnters b s
    exact ⟨t, ht, hends.answersOk⟩
  · obtain ⟨t, ht, hends⟩ := exec_alertAck_staysOrEnters s
    exact ⟨t, ht, hends.answersOk⟩

end Sys2Proof.Machine
end
